-- ==== Sys2Proof/Word.lean ====
section
/-! DEFINITION. The plain word types of the KC-318 (00_scope.md, Conventions). -/

namespace Sys2Proof

/-- A byte is 8 bits (00_scope.md, Units). -/
abbrev Byte := BitVec 8

/-- A Span word is 4 bytes (00_scope.md, Units). -/
abbrev Word := BitVec 32

/-- A 36-bit byte address in Span space (00_scope.md, Addresses). -/
abbrev SpanAddr := BitVec 36

/-- A Span frame number: the Span address divided by 256 (00_scope.md, Addresses). -/
abbrev Frame := BitVec 28

/-- A byte offset 0 to 2047 of Exchange Memory. Eleven bits name exactly the bytes that exist. -/
abbrev ExOffset := BitVec 11

/-- A doubleword index 0 to 255 of Exchange Memory. -/
abbrev DwIndex := BitVec 8

/-- A Span node number 0 to 15 (R57). -/
abbrev Node := BitVec 4

/-- One of the four tags 0 to 3 (R60, R84). -/
abbrev Tag := Fin 4

/-- The level of a notice record, 0 to 3, 3 the highest (R125). -/
abbrev Level := BitVec 2

/-- The 16-bit code of a notice (R125). -/
abbrev NoticeCode := BitVec 16

/-- A 4-bit limit code (00_scope.md, Time). -/
abbrev LimitCode := BitVec 4

/-- The 24-bit aperture number: the aperture base divided by 4096 (R66). -/
abbrev ApertureNumber := BitVec 24

/-- How many of the bits of a word are set. -/
def bitWeight {n : Nat} (x : BitVec n) : Nat := (List.finRange n).countP fun i => x.getLsb i

end Sys2Proof
end

