-- ==== Sys2Proof/Syntax.lean ====
section
/-! DEFINITION. The commands of the KC-318 as plain data: one constructor of `Instr` per row of spec/opcode_table.json,
with the command bytes of R4's table, the Span packets of R60 and R62 and the receipts of R59. -/

namespace Sys2Proof

/-- The command set of section 1.3, one name per command byte. -/
inductive Command
  | nop | setPage | setOffset | setAddress | direction | windowLimit | nextLine | reload | clearCounters
  | writeStream | readStream | drain | fetchLock | storeUnlock | releaseLock | mapWrite | mapRead
  | gateWrite | gateRead | set | report | takeNotice | sendNotice | sendRecall | faultRelease | faultClear
  | abort | restart | sleep | wake
deriving DecidableEq, Repr

/-- The kinds of Span request packet (R60), also the kind field of a captured fault (R139). -/
inductive Kind
  | read | write | lockRead | unlockWrite | notice | recall | faultReport
deriving DecidableEq, Repr

/-- The four memory kinds of R60, which an inbound memory request may have. -/
inductive MemoryKind
  | read | write | lockRead | unlockWrite
deriving DecidableEq, Repr

/-- The five receipts of R59. -/
inductive Receipt
  | taken | check | full | denied | void
deriving DecidableEq, Repr

/-- The four beat statuses of R62. -/
inductive BeatStatus
  | good | mended | spoiled | held
deriving DecidableEq, Repr

/-- A memory request as received from another node (R60). `valueOk` says whether its check value agrees with its
fields (R61), which the model does not compute (assumption log 13, DESIGN CHOICE, safe). Enables and data are one per byte, in address order. -/
structure MemoryPacket where
  kind : MemoryKind
  source : Node
  tag : Tag
  address : SpanAddr
  /-- The length in words as received. -/
  words : Nat
  confirm : Bool
  enables : List Bool
  data : List Byte
  valueOk : Bool
deriving DecidableEq, Repr

/-- A NOTICE or RECALL as received (R60). The level is as received, so a malformed packet can hold one above 3 (R61). -/
structure NoticePacket where
  source : Node
  destination : Node
  level : Nat
  code : NoticeCode
  valueOk : Bool
deriving DecidableEq, Repr

/-- A FAULT-REPORT as received (R60). -/
structure FaultReportPacket where
  source : Node
  destination : Node
  faultCode : Byte
  address : SpanAddr
  valueOk : Bool
deriving DecidableEq, Repr

/-- The fields of a beat (R62). Byte 0 of a doubleword is the least significant byte of `word0`. -/
structure Beat where
  requester : Node
  tag : Tag
  /-- The beat number as received; 0 to 3 when well formed (R61). -/
  number : Nat
  status : BeatStatus
  word0 : Word
  word1 : Word
deriving DecidableEq, Repr

/-- A beat as received, with the agreement of its check value (R61). -/
structure BeatPacket where
  beat : Beat
  valueOk : Bool
deriving DecidableEq, Repr

/-- One constructor per row of spec/opcode_table.json.

A row that is a command with parameters carries the parameter bytes that the host processor writes after the command
byte in the same selection: the whole list for the complete command, fewer for a collection left open, whose later
bytes are `parameterByte` commands. A REPORT row carries its selector, or `none` for the command byte 29h alone. -/
inductive Instr
  | nop
  | unknownCommandByte (value : Byte)
  | parameterByte (value : Byte)
  | csRelease
  | dataByte (value : Byte)
  | dataRead
  | setPage (params : List Byte)
  | setOffset (params : List Byte)
  | setAddress (params : List Byte)
  | direction (params : List Byte)
  | windowLimit (params : List Byte)
  | nextLine
  | reload
  | clearCounters
  | writeStream
  | readStream
  | drain
  | drainComplete
  | fetchLock
  | storeUnlock (params : List Byte)
  | releaseLock
  | mapWrite (params : List Byte)
  | mapRead (params : List Byte)
  | gateWrite (params : List Byte)
  | gateRead (params : List Byte)
  | set (params : List Byte)
  /-- `levels` are the levels of NODE0 to NODE3 at the time of the report (R57, R153; assumption log 15, DESIGN CHOICE, safe). -/
  | reportIdentity (levels : Node) (selector : Option Byte)
  | reportCounters (selector : Option Byte)
  | reportFault (selector : Option Byte)
  | reportSummary (selector : Option Byte)
  | reportEngine (selector : Option Byte)
  | reportStatistics (selector : Option Byte)
  | reportSetting (selector : Option Byte)
  | reportLock (selector : Option Byte)
  | reportTaken (selector : Option Byte)
  | takeNotice
  | sendNotice (params : List Byte)
  | sendRecall (params : List Byte)
  | faultRelease
  | faultClear (params : List Byte)
  | abort
  | restartFirstByte
  | restart
  | sleep
  | wake
  /-- `straps` are the levels of NODE0 to NODE3 at the start of the reset (R57). -/
  | powerOnReset (straps : Node)
  /-- `straps` are the levels of NODE0 to NODE3 at the start of the reset (R57). -/
  | pinReset (straps : Node)
  | resetInitializationEnd
  | spanResetAssertion
  | spanResetDeassertion
  /-- The level other nodes drive from now on. -/
  | claimLineChange (asserted : Bool)
  | claimDriveAfterWait
  /-- `position` numbers the 43 stored bits: 0 to 27 the FRAME, 28 to 35 the flags byte, 36 to 42 the check field
  (assumption log 14, DESIGN CHOICE, safe). -/
  | mapUpset (page : Byte) (position : Fin 43)
  | tickBoundary
  | sendTurn
  | inboundMemoryRequest (packet : MemoryPacket)
  | inboundNotice (packet : NoticePacket)
  | inboundRecall (packet : NoticePacket)
  | inboundFaultReport (packet : FaultReportPacket)
  | beat (packet : BeatPacket)
  | sendPointReceipt (receipt : Receipt)
  | reportQueueReceipt (receipt : Receipt)
  | beatReceipt (receipt : Receipt)
  | abandonedOfferReceipt (receipt : Receipt)
  | orphanedReceipt (receipt : Receipt)
  | responseTimerExpiry (tag : Tag)
  | sendPointRetryExpiry
  | lockFetchRetryExpiry
  | reportRetryExpiry
  | beatRetryExpiry
  | exchangeFetchRetryExpiry
  | nodeHoldExpiry (index : DwIndex)
  | hostHoldExpiry
  | claimTimerExpiry
  | quarantineExpiry (tag : Tag)
  | headToSendPoint
  | localRequestGrant
  | exchangeLockAttempt
  | inboundReadGrant
  | inboundWriteGrant
  | inboundLockReadGrant
  | inboundUnlockWriteGrant
  | stagedRequestEntry
  | waitingLockRequestPlacement
  | resetEnd
deriving DecidableEq, Repr

end Sys2Proof
end

