-- ==== Sys2Proof/Decode.lean ====
section
/-! DEFINITION. The command bytes of section 1.3 and the parameter counts of R4. The rows of spec/opcode_table.json give
no bits, so no row is spelled by a word. -/

namespace Sys2Proof

/-- The command that a command byte names; `none` for an unknown byte (section 1.3, R9). -/
def decodeCommandByte (b : Byte) : Option Command :=
  match b.toNat with
  | 0x00 => some .nop
  | 0x01 => some .setPage
  | 0x02 => some .setOffset
  | 0x03 => some .setAddress
  | 0x04 => some .direction
  | 0x05 => some .windowLimit
  | 0x06 => some .nextLine
  | 0x07 => some .reload
  | 0x08 => some .clearCounters
  | 0x10 => some .writeStream
  | 0x11 => some .readStream
  | 0x12 => some .drain
  | 0x18 => some .fetchLock
  | 0x19 => some .storeUnlock
  | 0x1A => some .releaseLock
  | 0x20 => some .mapWrite
  | 0x21 => some .mapRead
  | 0x22 => some .gateWrite
  | 0x23 => some .gateRead
  | 0x28 => some .set
  | 0x29 => some .report
  | 0x30 => some .takeNotice
  | 0x31 => some .sendNotice
  | 0x32 => some .sendRecall
  | 0x38 => some .faultRelease
  | 0x39 => some .faultClear
  | 0x3E => some .abort
  | 0x3F => some .restart
  | 0x40 => some .sleep
  | 0x41 => some .wake
  | _ => none

/-- The byte of a command (section 1.3). -/
def Command.byte : Command → Byte
  | .nop => 0x00#8
  | .setPage => 0x01#8
  | .setOffset => 0x02#8
  | .setAddress => 0x03#8
  | .direction => 0x04#8
  | .windowLimit => 0x05#8
  | .nextLine => 0x06#8
  | .reload => 0x07#8
  | .clearCounters => 0x08#8
  | .writeStream => 0x10#8
  | .readStream => 0x11#8
  | .drain => 0x12#8
  | .fetchLock => 0x18#8
  | .storeUnlock => 0x19#8
  | .releaseLock => 0x1A#8
  | .mapWrite => 0x20#8
  | .mapRead => 0x21#8
  | .gateWrite => 0x22#8
  | .gateRead => 0x23#8
  | .set => 0x28#8
  | .report => 0x29#8
  | .takeNotice => 0x30#8
  | .sendNotice => 0x31#8
  | .sendRecall => 0x32#8
  | .faultRelease => 0x38#8
  | .faultClear => 0x39#8
  | .abort => 0x3E#8
  | .restart => 0x3F#8
  | .sleep => 0x40#8
  | .wake => 0x41#8

/-- How many parameter bytes a command owes (section 1.3, R4). MAP WRITE owes 7 with CHECK SUPPLY on and 6 with it off. -/
def Command.owed (checkSupply : Bool) : Command → Nat
  | .setPage | .setOffset | .direction | .mapRead | .gateRead | .faultClear => 1
  | .setAddress | .windowLimit | .report => 2
  | .set => 3
  | .sendNotice | .sendRecall => 4
  | .gateWrite => 7
  | .storeUnlock => 9
  | .mapWrite => if checkSupply then 7 else 6
  | .nop | .nextLine | .reload | .clearCounters | .writeStream | .readStream | .drain | .fetchLock
  | .releaseLock | .takeNotice | .faultRelease | .abort | .restart | .sleep | .wake => 0

/-- The command that a word spells by the table's bits. No row of spec/opcode_table.json gives bits: none
(assumption log 19, DEDUCED, safe). -/
def decodeTableWord (_nbits _w : Nat) : Option Instr := none

end Sys2Proof
end

