-- ==== Sys2Proof/CheckCodeWitness.lean ====
section
/-! SUPPORT. A check code as R47 demands one exists: seven odd-weight check columns over 36 data bits.
Nothing in the model computes with this code. It only shows that the type `Config.CheckCode` has a value. -/

namespace Sys2Proof.CheckCodeWitness

/-- The check columns: the 35 seven-bit words of weight 3 and one word of weight 5. -/
def columns : List (BitVec 7) :=
  ((List.range 128).map (BitVec.ofNat 7)).filter (fun c => bitWeight c == 3) ++ [31#7]

/-- The sum of the columns that the set bits select. -/
def syndrome : List (BitVec 7) → List Bool → BitVec 7
  | c :: cs, b :: bs => (if b then c else 0#7) ^^^ syndrome cs bs
  | _, _ => 0#7

/-- The bits of a data word, bit 0 first. -/
def dataBits (d : BitVec 36) : List Bool := (List.finRange 36).map fun i => d.getLsb i

/-- The sample check code. -/
def sampleField (d : BitVec 36) : BitVec 7 := syndrome columns (dataBits d)

/-- The parity of a seven-bit word. -/
def parity (x : BitVec 7) : Bool :=
  (List.range 7).foldr (fun i p => x.getLsbD i ^^ p) false

theorem parity_xor (a b : BitVec 7) : parity (a ^^^ b) = (parity a ^^ parity b) := by
  unfold parity
  induction List.range 7 with
  | nil => rfl
  | cons i l ih =>
    rw [List.foldr_cons, List.foldr_cons, List.foldr_cons, ih, BitVec.getLsbD_xor]
    simp only [Bool.xor_assoc, Bool.xor_left_comm]

theorem weight_parity (a : BitVec 7) : bitWeight a % 2 = (parity a).toNat := by
  revert a; decide

theorem weight_pos (a : BitVec 7) (h : a ≠ 0#7) : 1 ≤ bitWeight a := by
  revert a; decide

theorem columns_odd : ∀ c ∈ columns, parity c = true := by decide

theorem columns_weight : ∀ c ∈ columns, 3 ≤ bitWeight c := by decide

theorem columns_distinct : columns.Pairwise (· ≠ ·) := by decide

theorem columns_length : columns.length = 36 := by decide

theorem syndrome_xor (cs : List (BitVec 7)) (as bs : List Bool) (h : as.length = bs.length) :
    syndrome cs as ^^^ syndrome cs bs = syndrome cs (List.zipWith (· ^^ ·) as bs) := by
  induction cs generalizing as bs with
  | nil => simp [syndrome]
  | cons c cs ih =>
    match as, bs with
    | [], [] => simp [syndrome]
    | a :: as, b :: bs =>
      have e := ih as bs (by simpa using h)
      have shuffle : ∀ p q r s : BitVec 7, (p ^^^ q) ^^^ (r ^^^ s) = (p ^^^ r) ^^^ (q ^^^ s) := by
        intro p q r s; ac_rfl
      simp only [syndrome, List.zipWith_cons_cons, shuffle, e]
      cases a <;> cases b <;> simp

theorem syndrome_parity (cs : List (BitVec 7)) (bs : List Bool) (hodd : ∀ c ∈ cs, parity c = true)
    (hlen : bs.length ≤ cs.length) : (parity (syndrome cs bs)).toNat = bs.countP id % 2 := by
  induction cs generalizing bs with
  | nil => cases bs <;> simp_all [syndrome]; decide
  | cons c cs ih =>
    cases bs with
    | nil => simp [syndrome]; decide
    | cons b bs =>
      have e := ih bs (fun d hd => hodd d (List.mem_cons_of_mem _ hd)) (by simpa using hlen)
      have hc := hodd c List.mem_cons_self
      simp only [syndrome, parity_xor, List.countP_cons]
      cases b
      · have : parity 0#7 = false := by decide
        simp [this, e]
      · simp only [if_true, hc, id_eq]
        cases hp : parity (syndrome cs bs) <;> simp [hp] at e ⊢ <;> omega

theorem syndrome_none (cs : List (BitVec 7)) (bs : List Bool) (h : bs.countP id = 0) :
    syndrome cs bs = 0#7 := by
  induction cs generalizing bs with
  | nil => cases bs <;> rfl
  | cons c cs ih =>
    cases bs with
    | nil => rfl
    | cons b bs =>
      cases b
      · simp [syndrome, ih bs (by simpa using h)]
      · simp at h

theorem syndrome_one (cs : List (BitVec 7)) (bs : List Bool) (hlen : bs.length ≤ cs.length)
    (h : bs.countP id = 1) : syndrome cs bs ∈ cs := by
  induction cs generalizing bs with
  | nil => cases bs <;> simp_all
  | cons c cs ih =>
    cases bs with
    | nil => simp at h
    | cons b bs =>
      cases b
      · simp only [syndrome]
        refine List.mem_cons_of_mem _ ?_
        simpa using ih bs (by simpa using hlen) (by simpa using h)
      · simp [syndrome, syndrome_none cs bs (by simpa using h)]

theorem syndrome_two (cs : List (BitVec 7)) (bs : List Bool) (hlen : bs.length ≤ cs.length)
    (hdist : cs.Pairwise (· ≠ ·)) (h : bs.countP id = 2) : syndrome cs bs ≠ 0#7 := by
  induction cs generalizing bs with
  | nil => cases bs <;> simp_all
  | cons c cs ih =>
    cases bs with
    | nil => simp at h
    | cons b bs =>
      rw [List.pairwise_cons] at hdist
      cases b
      · simpa [syndrome] using ih bs (by simpa using hlen) hdist.2 (by simpa using h)
      · have hm := syndrome_one cs bs (by simpa using hlen) (by simpa using h)
        have hne := hdist.1 _ hm
        simp only [syndrome, if_true]
        intro hz
        exact hne (BitVec.xor_eq_zero_iff.mp hz)

/-- Two data words that differ lie, with their sample check fields, at least four positions apart. -/
theorem sample_distance (d e : BitVec 36) (hne : d ≠ e) :
    4 ≤ bitWeight (d ^^^ e) + bitWeight (sampleField d ^^^ sampleField e) := by
  have hx : List.zipWith (· ^^ ·) (dataBits d) (dataBits e) = dataBits (d ^^^ e) := by
    simp only [dataBits, List.zipWith_map, List.zipWith_self]
    apply List.map_congr_left
    intro i _
    simp [BitVec.getLsb]
  have hs : sampleField d ^^^ sampleField e = syndrome columns (dataBits (d ^^^ e)) := by
    rw [sampleField, sampleField, syndrome_xor _ _ _ (by simp [dataBits]), hx]
  have hw : bitWeight (d ^^^ e) = (dataBits (d ^^^ e)).countP id := by
    simp [bitWeight, dataBits, List.countP_map]
  have hlen : (dataBits (d ^^^ e)).length ≤ columns.length := by
    rw [columns_length]; simp [dataBits]
  have hpos : (dataBits (d ^^^ e)).countP id ≠ 0 := by
    intro h0
    apply hne
    have hz : d ^^^ e = 0#36 := by
      apply BitVec.eq_of_getLsbD_eq
      intro i hi
      rw [List.countP_eq_zero] at h0
      have := h0 ((d ^^^ e).getLsb ⟨i, hi⟩) (by simp [dataBits]; exact ⟨⟨i, hi⟩, rfl⟩)
      rw [BitVec.getLsbD_zero]
      exact Bool.eq_false_iff.mpr this
    exact BitVec.xor_eq_zero_iff.mp hz
  rw [hs, hw]
  have hpar := syndrome_parity columns _ columns_odd hlen
  have hwp := weight_parity (syndrome columns (dataBits (d ^^^ e)))
  generalize hc : (dataBits (d ^^^ e)).countP id = n at *
  generalize hw2 : bitWeight (syndrome columns (dataBits (d ^^^ e))) = w at *
  have heven : w % 2 = n % 2 := by omega
  by_cases h1 : n = 1
  · have := columns_weight _ (syndrome_one columns _ hlen (by omega))
    omega
  · by_cases h2 : n = 2
    · have := weight_pos _ (syndrome_two columns _ hlen columns_distinct (by omega))
      omega
    · omega

theorem sample_zero : sampleField 0#36 = 0#7 := by
  rw [sampleField, syndrome_none]
  decide

end Sys2Proof.CheckCodeWitness
end

