-- ==== Sys2Proof/Config.lean ====
section
/-! DEFINITION. What every KC-318 fixes and the manual does not publish, and the constants it does publish. -/

namespace Sys2Proof.Config

/-- A check code as R47 bounds it: a fixed function of the 36 data bits that assigns 00h to all-zero data and
keeps any two consistent 43-bit entries at least four positions apart. The default field values only show
that such codes exist; no model text reads them. -/
structure CheckCode where
  /-- The check field of the data bits. -/
  field : BitVec 36 → BitVec 7 := CheckCodeWitness.sampleField
  /-- All-zero data bits have the check field 00h (R47). -/
  field_zero : field 0#36 = 0#7 := by exact CheckCodeWitness.sample_zero
  /-- Any two consistent entries differ in at least four of the 43 positions (R47). -/
  distance : ∀ d e : BitVec 36, d ≠ e → 4 ≤ bitWeight (d ^^^ e) + bitWeight (field d ^^^ field e) := by
    exact CheckCodeWitness.sample_distance
deriving Inhabited

/-- The check code of the Window Map. "The algebra of the code is not published" (R47): a free value, with
nothing known of it beyond the two bounds its type states (assumption log 1). -/
opaque checkCode : CheckCode

/-- Part code 013Eh, low byte first in IDENTITY (R153). -/
def partCodeLow : Byte := 0x3E#8
/-- The high byte of the part code (R153). -/
def partCodeHigh : Byte := 0x01#8
/-- Revision 02h (R153). -/
def revision : Byte := 0x02#8

end Sys2Proof.Config
end

