-- ==== Sys2Proof/Machine/State.lean ====
section
/-! DEFINITION. The state of the KC-318 as plain data, block by block, and the state right after reset.
INVENTORY.md lists every field with the rule that names it. -/

namespace Sys2Proof.Machine

/-- Why a command could stop the machine. The manual gives every command an effect in every state, so there is
no reason: no meaning faults. -/
inductive Fault
deriving DecidableEq, Repr

/-- Why a command could be refused. -/
inductive Refusal
  /-- Raised by exec's own arm for a row that has no meaning yet; safe. No arm does so now. -/
  | notModelled (mnemonic : String)
deriving DecidableEq, Repr

/-! ### Time, steps and the outside world -/

/-- A timer of R149: the number of the tick boundary at which it expires, or `none` for limit code 0. -/
structure Timer where
  due : Option Nat
deriving DecidableEq, Repr

/-- The phases of a processing step in the order of R164. `between` is between steps. -/
inductive Phase
  | between | spanLine | claimLine | timers | packets | host | exam | pass
deriving DecidableEq, Repr

/-- The model's record of the processing step in progress (R164) and of the timebase (R148). -/
structure Sched where
  phase : Phase
  /-- Tick boundaries since the timebase last restarted. -/
  tick : Nat
  /-- Whether the step in progress lies at a tick boundary, or at the restart of the timebase (R148, R149). -/
  onGrid : Bool
  /-- Grants the arbiter has made in this step's end-of-step pass (R116). -/
  grants : Nat
  /-- The name the next request or inbound entry takes; it stands for the identity R36 and R95 speak of
  (assumption log 12, DESIGN CHOICE, safe). -/
  serial : Nat
deriving DecidableEq, Repr

/-- The input pins and lines as they stand. -/
structure Pins where
  /-- NODE0 to NODE3, NODE0 as bit 0 (R57). -/
  strapLevels : Node
  /-- CS# asserted (R1). -/
  selected : Bool
  /-- SPAN-RESET asserted (R160, R161). -/
  spanReset : Bool
  /-- CLAIM driven by another node (R109, R111). -/
  claimOthers : Bool
deriving DecidableEq, Repr

/-- The two kinds of reset that end in reset initialization (R157, R158). -/
inductive ResetKind
  | powerOn | pin
deriving DecidableEq, Repr

/-- Whether the bridge runs, is held in reset, or is in reset initialization (R157, R158). -/
inductive Mode
  | running
  | held (kind : ResetKind)
  | initializing (kind : ResetKind)
deriving DecidableEq, Repr

/-- Power, numbering and sleep. -/
structure Power where
  mode : Mode
  /-- The aperture in force immediately before the reset in progress began (R71). -/
  priorAperture : Option ApertureNumber
  /-- The node number as sampled (R57). -/
  node : Node
  /-- R162, R163. -/
  asleep : Bool
deriving DecidableEq, Repr

/-! ### Faults -/

/-- The thirty fault codes of R137. -/
inductive FaultCode
  | cmdUnknown | paramCut | paramRange | protocol | overrun | underrun | mapInvalid | mapRights | mapRange
  | mapMended | mapSpoiled | voidTarget | denied | retryExhausted | responseTimeout | sequence | dataMended
  | dataSpoiled | stray | lockAbandoned | lockExpired | lockOrphan | gateDenied | spanResetLoss | spanReset
  | aborted | claimTimeout | recovered | responseUndelivered | reportDropped
deriving DecidableEq, Repr

/-- The origin field of a fault (R139). -/
inductive FaultOrigin
  | hostPort | window | map | outbound | lock | inbound | notice
deriving DecidableEq, Repr

/-- One fault with its fields (R139). Its class is a function of its code (R137). -/
structure FaultRecord where
  code : FaultCode
  origin : FaultOrigin
  tag : Option Tag
  kind : Option Kind
  address : Option SpanAddr
  page : Option Byte
  offset : Option Byte
  peer : Option Node
deriving DecidableEq, Repr

/-- The Fault Log (R138). Bit c of `summary` says that code c is a member of the Fault Summary. -/
structure FaultLog where
  capture : Option FaultRecord
  overflow : Bool
  summary : BitVec 32
  mended : BitVec 8
deriving DecidableEq, Repr

/-! ### Requests -/

/-- Why an outbound request was made (R75). -/
inductive Origin
  | hostWrite | hostFetch | lookahead | lockFetch | lockStore | lockRelease | noticeSend | recallSend
deriving DecidableEq, Repr

/-- Where a request goes (R75): a Span address, an Exchange Memory offset, or a node. -/
inductive Dest
  | span (address : SpanAddr)
  | exchange (offset : ExOffset)
  | node (number : Node)
deriving DecidableEq, Repr

/-- The request record (R75), with the model's name for the request. -/
structure Request where
  serial : Nat
  origin : Origin
  kind : Kind
  dest : Dest
  /-- Length in words; 0 for the node kinds, which have none. -/
  words : Nat
  /-- One per byte of the length for WRITE and UNLOCK-WRITE, else empty. -/
  enables : List Bool
  /-- One per byte of the length for WRITE and UNLOCK-WRITE, else empty. -/
  data : List Byte
  /-- Level and code of a NOTICE or RECALL. -/
  note : Option (Level × NoticeCode)
  confirm : Bool
  reread : Bool
  /-- Window page and offset. -/
  window : Option (Byte × Byte)
  /-- The abort-release mark of R94. -/
  abortRelease : Bool
deriving DecidableEq, Repr

/-- A retry window (R82): its timer once it has started, and whether its expiry has been recorded. -/
structure RetryWindow where
  timer : Option Timer
  expired : Bool
deriving DecidableEq, Repr

/-! ### Host Port -/

/-- The five decoder states (R3). -/
inductive Decoder
  | idle | collecting | writeStream | readStream | report
deriving DecidableEq, Repr

/-- The collected command (R3). -/
structure Collected where
  command : Command
  /-- Parameters still owed. -/
  owed : Nat
  /-- Parameters received, in arrival order. -/
  params : List Byte
  lapsed : Bool
deriving DecidableEq, Repr

/-- The Host Port's state (R3). -/
structure HostPort where
  decoder : Decoder
  collected : Option Collected
  report : Vector Byte 16
  reportLength : Nat
  reportPointer : Nat
  halfSeen : Bool
  drainPending : Bool
  idleLatch : Bool
deriving DecidableEq, Repr

/-! ### Stream Sequencer -/

/-- The addressing state (R21). A set direction bit decrements; `pageMajor` selects PAGE-MAJOR. -/
structure Addressing where
  pageReg : Byte
  pageCtr : Byte
  offReg : Byte
  offCtr : Byte
  low : Byte
  high : Byte
  offDec : Bool
  pageDec : Bool
  pageMajor : Bool
  pageEdge : Bool
  offEdge : Bool
deriving DecidableEq, Repr

/-- The open pack (R32): a position holds a byte exactly when it is enabled. -/
structure Pack where
  page : Byte
  block : Fin 8
  bytes : Vector (Option Byte) 32
deriving DecidableEq, Repr

/-- The state of a Read Buffer (R36). FETCHING names the request the buffer is bound to. -/
inductive BufferState
  | empty
  | fetching (serial : Nat)
  | valid (data : List Byte)
  | failed
deriving DecidableEq, Repr

/-- A Read Buffer (R36). The unit's page and first offset are 0 while EMPTY. -/
structure ReadBuffer where
  state : BufferState
  page : Byte
  first : Byte
  opened : Bool
deriving DecidableEq, Repr

/-- The Stream Sequencer's paths: the Write Combiner, the staging slot, the deferred request, the Read Buffers. -/
structure Streams where
  pack : Option Pack
  staging : Option Request
  deferred : Option Request
  current : ReadBuffer
  ahead : ReadBuffer
deriving DecidableEq, Repr

/-! ### Window Map -/

/-- A map entry: 43 stored bits (R44). -/
structure MapEntry where
  flags : Byte
  frame : Frame
  check : BitVec 7
deriving DecidableEq, Repr

/-! ### Span Engine -/

/-- A data status, from best to worst (R62, R84, R95). -/
inductive DataStatus
  | good | mended | spoiled
deriving DecidableEq, Repr

/-- How the packet of a source stands: ready to be offered, offered, or waiting for a tick boundary (R74, R76). -/
inductive OfferState
  | eligible | outstanding | waiting
deriving DecidableEq, Repr

/-- An entry of the Outbound Queue: a request and the engine's marks beside it (R77, R86, R88). -/
structure QueueEntry where
  req : Request
  /-- A front placement. -/
  front : Bool
  /-- The reread mark. -/
  rereadMark : Bool
  /-- The running window of a re-offered LOCK-READ. -/
  window : RetryWindow
  /-- A re-offered LOCK-READ still waiting for its tick boundary. -/
  waitTick : Bool
deriving DecidableEq, Repr

/-- The send point's request (R76, R81, R82). -/
structure SendPoint where
  req : Request
  tag : Option Tag
  offer : OfferState
  /-- Refused CHECK or FULL at least once since it entered the send point. -/
  refused : Bool
  window : RetryWindow
deriving DecidableEq, Repr

/-- What a BUSY tag holds (R84). -/
structure BusyTag where
  req : Request
  /-- Awaiting beats; otherwise still offering. -/
  awaiting : Bool
  expected : Nat
  received : List Nat
  worst : DataStatus
  data : List Byte
  rereadUsed : Bool
  abortRelease : Bool
  response : Option Timer
  /-- The retry window of a Span LOCK_FETCH request at its tag (R88). -/
  window : RetryWindow
deriving DecidableEq, Repr

/-- The state of a tag (R84). -/
inductive TagState
  | free
  | busy (held : BusyTag)
  | quarantine (timer : Timer)
deriving DecidableEq, Repr

/-- Whose receipt is awaited (R76). -/
inductive Offered
  | beat | report | sendPoint | orphaned
deriving DecidableEq, Repr

/-- One FAULT-REPORT to send (R90). -/
structure ReportEntry where
  dest : Node
  faultCode : Byte
  address : SpanAddr
deriving DecidableEq, Repr

/-- The offer state and retry window of the packet at the head of a list (R73, R91). -/
structure HeadOffer where
  offer : OfferState
  window : RetryWindow
deriving DecidableEq, Repr

/-- The outbound side of the Span Engine (R76). -/
structure Engine where
  queue : List QueueEntry
  sendPoint : Option SendPoint
  abandoned : Bool
  /-- The LOCK-READ tag whose offer ABORT abandoned (R93). -/
  abandonedTag : Option Tag
  outstanding : Option Offered
  tags : Vector TagState 4
  reports : List ReportEntry
  reportHead : HeadOffer
  retries : BitVec 16
  strays : BitVec 8
deriving DecidableEq, Repr

/-! ### Interlock Unit -/

/-- The host lock's states (R95). -/
inductive LockState
  | none | fetching | held | storing | releasing
deriving DecidableEq, Repr

/-- The host lock's target (R95). -/
inductive LockTarget
  | span (address : SpanAddr)
  | exchange (index : DwIndex)
deriving DecidableEq, Repr

/-- The host lock record (R95). -/
structure HostLock where
  state : LockState
  target : Option LockTarget
  confirm : Bool
  page : Byte
  offset : Byte
  /-- The name of the one lock request the Interlock Unit tracks. -/
  current : Option Nat
  data : Vector Byte 8
  status : DataStatus
  hold : Option Timer
deriving DecidableEq, Repr

/-- An Exchange lock fetch kept for retries (R99). -/
structure KeptFetch where
  req : Request
  ready : Bool
  window : Timer
deriving DecidableEq, Repr

/-- The owner of a Lock Table entry (R105). -/
inductive LockOwner
  | host
  | node (number : Node) (tag : Tag) (address : SpanAddr) (hold : Timer)
deriving DecidableEq, Repr

/-- A Lock Table entry (R105). -/
structure LockEntry where
  index : DwIndex
  owner : LockOwner
deriving DecidableEq, Repr

/-- The CLAIM state (R109). -/
structure Claim where
  heldCount : BitVec 8
  driving : Bool
  timer : Option Timer
  waiting : Bool
  used : Bool
deriving DecidableEq, Repr

/-- The Interlock Unit: host lock, waiting request (R96), kept fetch (R99), Lock Table (R105), CLAIM (R109). -/
structure Interlock where
  lock : HostLock
  waiting : Option Request
  kept : Option KeptFetch
  table : List LockEntry
  claim : Claim
deriving DecidableEq, Repr

/-! ### Exchange Memory, gate and inbound service -/

/-- Exchange Memory (R112): the bytes that are not 00h, by rising address. -/
abbrev Memory := List Host.Cell

/-- Exchange Memory and its arbiter's consecutive-inbound count (R114). -/
structure Exchange where
  mem : Memory
  run : Nat
deriving DecidableEq, Repr

/-- A Gate Table entry (R117). Bit k of `kinds` and bit n of `nodes` say membership, in the layout of R118. -/
structure GateEntry where
  enabled : Bool
  deny : Bool
  kinds : BitVec 4
  base : DwIndex
  mask : BitVec 8
  nodes : BitVec 16
deriving DecidableEq, Repr

/-- An Inbound Queue entry (R121), WAITING or ANSWERING. -/
structure InboundEntry where
  serial : Nat
  kind : MemoryKind
  source : Node
  tag : Tag
  address : SpanAddr
  offset : ExOffset
  words : Nat
  confirm : Bool
  enables : List Bool
  data : List Byte
  answering : Bool
deriving DecidableEq, Repr

/-- A beat of the response list (R72): the beat, the entry it belongs to, and that request's kind and address. -/
structure OwedBeat where
  beat : Beat
  entry : Nat
  kind : MemoryKind
  address : SpanAddr
deriving DecidableEq, Repr

/-- The Inbound Queue (R121) and the response list (R72). -/
structure Inbound where
  queue : List InboundEntry
  beats : List OwedBeat
  head : HeadOffer
deriving DecidableEq, Repr

/-! ### Notices -/

/-- What a notice record carries beside level, source and sequence number (R125). -/
inductive NoticeBody
  | notice (code : NoticeCode)
  | faultReport (faultCode : Byte) (address : SpanAddr)
deriving DecidableEq, Repr

/-- A notice record (R125). -/
structure NoticeRecord where
  body : NoticeBody
  level : Level
  source : Node
  sequence : BitVec 8
deriving DecidableEq, Repr

/-- The Notice Queue, arrival sequence counter and taken slot (R125, R126). A `none` slot is kind NONE. -/
structure Notices where
  queue : List NoticeRecord
  arrival : BitVec 8
  taken : Option NoticeRecord
  withdrawn : Bool
deriving DecidableEq, Repr

/-! ### Outputs -/

/-- A packet as the bridge places it on the Span (R60, R62). -/
inductive SpanPacket
  | memory (kind : Kind) (source : Node) (tag : Option Tag) (address : SpanAddr) (words : Nat) (confirm : Bool)
      (enables : List Bool) (data : List Byte)
  | note (kind : Kind) (source destination : Node) (level : Level) (code : NoticeCode)
  | faultReport (source destination : Node) (faultCode : Byte) (address : SpanAddr)
  | beat (beat : Beat)
deriving DecidableEq, Repr

/-- The model's record of what the bridge last put out: a byte on D0 to D7 (R14), a receipt (`none`: silent, R67),
a packet (R74). Nothing in the bridge reads it (assumption log 10, DESIGN CHOICE, safe). -/
structure Outputs where
  hostData : Option Byte
  receipt : Option Receipt
  packet : Option SpanPacket
deriving DecidableEq, Repr

/-! ### The whole machine -/

/-- The state of the bridge, with the queue of commands that wait to be handled. -/
structure State where
  pending : List Instr
  sched : Sched
  /-- Faults raised in the batch being handled and not yet logged (R141). -/
  raised : List FaultRecord
  pins : Pins
  power : Power
  host : HostPort
  addr : Addressing
  streams : Streams
  map : Vector MapEntry 256
  engine : Engine
  ilu : Interlock
  xmm : Exchange
  gate : Vector GateEntry 8
  inbound : Inbound
  notices : Notices
  log : FaultLog
  /-- The ten settings by id (R150, R151). -/
  settings : Vector (BitVec 16) 10
  out : Outputs
deriving DecidableEq, Repr

/-! ### Reset values -/

/-- R3. -/
def HostPort.reset : HostPort :=
  { decoder := .idle, collected := none, report := Vector.replicate 16 0#8, reportLength := 0, reportPointer := 0,
    halfSeen := false, drainPending := false, idleLatch := false }

/-- R21. -/
def Addressing.reset : Addressing :=
  { pageReg := 0, pageCtr := 0, offReg := 0, offCtr := 0, low := 0, high := 255#8, offDec := false, pageDec := false,
    pageMajor := false, pageEdge := false, offEdge := false }

/-- R36: EMPTY holds no unit, no data, no binding and no mark. -/
def ReadBuffer.empty : ReadBuffer := { state := .empty, page := 0, first := 0, opened := false }

/-- R33, R35, R36: nothing open, nothing staged, both buffers EMPTY. -/
def Streams.reset : Streams :=
  { pack := none, staging := none, deferred := none, current := .empty, ahead := .empty }

/-- R44: all-zero data bits and the check field 00h. -/
def MapEntry.zero : MapEntry := { flags := 0, frame := 0, check := 0 }

/-- A window that has not started. -/
def RetryWindow.fresh : RetryWindow := { timer := none, expired := false }

/-- A head that has not been offered. -/
def HeadOffer.fresh : HeadOffer := { offer := .eligible, window := .fresh }

/-- R76. -/
def Engine.reset : Engine :=
  { queue := [], sendPoint := none, abandoned := false, abandonedTag := none, outstanding := none,
    tags := Vector.replicate 4 .free, reports := [], reportHead := .fresh, retries := 0, strays := 0 }

/-- R95. -/
def HostLock.reset : HostLock :=
  { state := .none, target := none, confirm := false, page := 0, offset := 0, current := none,
    data := Vector.replicate 8 0#8, status := .good, hold := none }

/-- R109: all of the CLAIM state cleared and the line not driven. -/
def Claim.reset : Claim := { heldCount := 0, driving := false, timer := none, waiting := false, used := false }

/-- R95, R96, R99, R105, R109. -/
def Interlock.reset : Interlock :=
  { lock := .reset, waiting := none, kept := none, table := [], claim := .reset }

/-- R112, R114. -/
def Exchange.reset : Exchange := { mem := [], run := 0 }

/-- R117. -/
def GateEntry.reset : GateEntry := { enabled := false, deny := false, kinds := 0, base := 0, mask := 0, nodes := 0 }

/-- R72, R121. -/
def Inbound.reset : Inbound := { queue := [], beats := [], head := .fresh }

/-- R126. -/
def Notices.reset : Notices := { queue := [], arrival := 0, taken := none, withdrawn := false }

/-- R138. -/
def FaultLog.reset : FaultLog := { capture := none, overflow := false, summary := 0, mended := 0 }

/-- R151, by setting id. -/
def resetSettings : Vector (BitVec 16) 10 :=
  #v[0x0001#16, 0x000B#16, 0x000B#16, 0x0009#16, 0x0763#16, 0x0000#16, 0x0000#16, 0xFFFF#16, 0x0002#16, 0x0000#16]

/-- Between steps, at the restart of the timebase (R148; assumption log 18, DESIGN CHOICE, unsafe). -/
def Sched.reset : Sched := { phase := .between, tick := 0, onGrid := false, grants := 0, serial := 0 }

/-- The bridge right after a power-on reset with every strap low: the power-on column of section 11.4.
The strap levels and the lines at reset are inputs; log 2 names the levels taken here. -/
def State.reset : State :=
  { pending := [], sched := .reset, raised := [],
    pins := { strapLevels := 0, selected := false, spanReset := false, claimOthers := false },
    power := { mode := .running, priorAperture := none, node := 0, asleep := false },
    host := .reset, addr := .reset, streams := .reset, map := Vector.replicate 256 .zero, engine := .reset,
    ilu := .reset, xmm := .reset, gate := Vector.replicate 8 .reset, inbound := .reset, notices := .reset,
    log := .reset, settings := resetSettings, out := { hostData := none, receipt := none, packet := none } }

end Sys2Proof.Machine
end

