-- ==== Sys2Proof/Machine/Operands.lean ====
section
/-! DEFINITION. Operand forms: byte order, the fields of the settings (R151), the aperture (R66), bytes of multi-byte
reports, and the shape of requests and beats (R61, R63). -/

namespace Sys2Proof.Machine

/-! ### Byte order -/

/-- The bytes of a word in address order, the lowest address in the least significant place (R112). -/
def wordBytes (w : Word) : List Byte :=
  [w.extractLsb' 0 8, w.extractLsb' 8 8, w.extractLsb' 16 8, w.extractLsb' 24 8]

/-- The word of four bytes in address order; a missing byte is 00h (R112). -/
def wordOfBytes (bs : List Byte) : Word :=
  (bs.getD 3 0#8 ++ bs.getD 2 0#8 ++ bs.getD 1 0#8 ++ bs.getD 0 0#8 : BitVec 32)

/-- The `i`th word of a list of bytes in address order. -/
def wordAt (bs : List Byte) (i : Nat) : Word := wordOfBytes (bs.drop (4 * i))

/-- Puts `new` over `old` from position `at_` on, keeping the length of `old`. -/
def splice (old : List Byte) (at_ : Nat) (new : List Byte) : List Byte :=
  (old.take at_ ++ new ++ old.drop (at_ + new.length)).take old.length

/-- The low and high byte of a 16-bit value. -/
def lowByte (x : BitVec 16) : Byte := x.extractLsb' 0 8
/-- The high byte of a 16-bit value. -/
def highByte (x : BitVec 16) : Byte := x.extractLsb' 8 8

/-- Bits 0 to 31 of a Span address as four bytes, least significant first. -/
def addressBytes (a : SpanAddr) : List Byte :=
  [a.extractLsb' 0 8, a.extractLsb' 8 8, a.extractLsb' 16 8, a.extractLsb' 24 8]

/-- Bits 32 to 35 of a Span address in bits 0 to 3 of a byte. -/
def addressTop (a : SpanAddr) : Byte := (a.extractLsb' 32 4).setWidth 8

/-- A byte with bit `i` set where `b` holds. -/
def bit (i : Nat) (b : Bool) : Byte := if b then BitVec.twoPow 8 i else 0#8

/-- Eight bytes as the lock data (R95). -/
def bytes8 (bs : List Byte) : Vector Byte 8 := Vector.ofFn fun i => bs.getD i.val 0#8

/-! ### Settings (R151) -/

/-- The value of the setting with an id 0 to 9. -/
def State.setting (s : State) (i : Fin 10) : BitVec 16 := s.settings.get i

/-- ATTENTION's threshold. -/
def State.threshold (s : State) : Level := (s.setting 0).extractLsb' 4 2
/-- RESPONSE LIMIT's limit code. -/
def State.responseLimit (s : State) : LimitCode := (s.setting 1).extractLsb' 0 4
/-- RETRY LIMIT's limit code. -/
def State.retryLimit (s : State) : LimitCode := (s.setting 2).extractLsb' 0 4
/-- LOCK HOLD's limit code. -/
def State.lockHold (s : State) : LimitCode := (s.setting 3).extractLsb' 0 4
/-- CLAIM's ASSERT field. -/
def State.claimAssert (s : State) : Bool := (s.setting 4).getLsbD 0
/-- CLAIM's OBEY field. -/
def State.claimObey (s : State) : Bool := (s.setting 4).getLsbD 1
/-- CLAIM's count limit. -/
def State.claimLimit (s : State) : BitVec 4 := (s.setting 4).extractLsb' 4 4
/-- CLAIM's claim time code. -/
def State.claimTime (s : State) : LimitCode := (s.setting 4).extractLsb' 8 4
/-- APERTURE HIGH's ENABLE field. -/
def State.apertureEnabled (s : State) : Bool := (s.setting 6).getLsbD 15
/-- The aperture number: APERTURE HIGH's bits 0 to 7 above APERTURE LOW (R66). -/
def State.apertureNumber (s : State) : ApertureNumber := (s.setting 6).extractLsb' 0 8 ++ s.setting 5
/-- Whether a node is in NOTICE SOURCES. -/
def State.noticeSource (s : State) (n : Node) : Bool := (s.setting 7).getLsbD n.toNat
/-- INBOUND's GATE DEFAULT is PERMIT. -/
def State.gatePermits (s : State) : Bool := (s.setting 8).getLsbD 0
/-- INBOUND's REPORTS field. -/
def State.reportsOn (s : State) : Bool := (s.setting 8).getLsbD 1
/-- DIAGNOSTIC's CHECK SUPPLY field. -/
def State.checkSupply (s : State) : Bool := (s.setting 9).getLsbD 0

/-- The bits that may be set in each setting: the complement of "Bits that must be 0" (R151). -/
def settingMask : Fin 10 → BitVec 16
  | 0 => 0x003F#16
  | 1 => 0x000F#16
  | 2 => 0x000F#16
  | 3 => 0x000F#16
  | 4 => 0x0FF3#16
  | 5 => 0xFFFF#16
  | 6 => 0x80FF#16
  | 7 => 0xFFFF#16
  | 8 => 0x0003#16
  | 9 => 0x0001#16

/-! ### The aperture (R66) -/

/-- The aperture in force, if it is enabled. -/
def State.aperture (s : State) : Option ApertureNumber :=
  if s.apertureEnabled then some s.apertureNumber else none

/-- An address lies inside the 2048 bytes from aperture number times 4096 on (R66). -/
def inAperture (a : Option ApertureNumber) (address : SpanAddr) : Bool :=
  a == some (address.extractLsb' 12 24) && !address.getLsbD 11

/-- The Exchange offset of an address inside the aperture: the address minus the base (R66). -/
def exchangeOffset (address : SpanAddr) : ExOffset := address.extractLsb' 0 11

/-- The doubleword index of an Exchange offset: the offset divided by 8 (00_scope.md, Addresses). -/
def dwOfOffset (o : ExOffset) : DwIndex := o.extractLsb' 3 8

/-- The offset of a doubleword's first byte. -/
def offsetOfDw (i : DwIndex) : ExOffset := i ++ 0#3

/-! ### Kinds, codes and beats -/

/-- The origin byte of the FAULT report (R146). -/
def FaultOrigin.reportByte : FaultOrigin → Byte
  | .hostPort => 0
  | .window => 1
  | .map => 2
  | .outbound => 3
  | .lock => 4
  | .inbound => 5
  | .notice => 6

/-- The code of a fault (R137). -/
def FaultCode.number : FaultCode → Nat
  | .cmdUnknown => 0x01
  | .paramCut => 0x02
  | .paramRange => 0x03
  | .protocol => 0x04
  | .overrun => 0x05
  | .underrun => 0x06
  | .mapInvalid => 0x07
  | .mapRights => 0x08
  | .mapRange => 0x09
  | .mapMended => 0x0A
  | .mapSpoiled => 0x0B
  | .voidTarget => 0x0C
  | .denied => 0x0D
  | .retryExhausted => 0x0E
  | .responseTimeout => 0x0F
  | .sequence => 0x10
  | .dataMended => 0x11
  | .dataSpoiled => 0x12
  | .stray => 0x13
  | .lockAbandoned => 0x14
  | .lockExpired => 0x15
  | .lockOrphan => 0x16
  | .gateDenied => 0x17
  | .spanResetLoss => 0x18
  | .spanReset => 0x19
  | .aborted => 0x1A
  | .claimTimeout => 0x1B
  | .recovered => 0x1C
  | .responseUndelivered => 0x1D
  | .reportDropped => 0x1E

/-- The code of a fault as a byte. -/
def FaultCode.byte (c : FaultCode) : Byte := BitVec.ofNat 8 c.number

/-- Whether a fault is hard (R137). -/
def FaultCode.hard : FaultCode → Bool
  | .overrun | .mapInvalid | .mapRights | .mapRange | .mapSpoiled | .voidTarget | .denied | .retryExhausted
  | .responseTimeout | .sequence | .dataSpoiled | .lockAbandoned | .spanResetLoss => true
  | .cmdUnknown | .paramCut | .paramRange | .protocol | .underrun | .mapMended | .dataMended | .stray
  | .lockExpired | .lockOrphan | .gateDenied | .spanReset | .aborted | .claimTimeout | .recovered
  | .responseUndelivered | .reportDropped => false

/-- How many beats a READ of a length has: 1, 1, 2 or 4 (R63). -/
def readBeats (words : Nat) : Nat := (words + 1) / 2

/-- The beat count a tag expects of its request (R84). -/
def Request.expectedBeats (r : Request) : Nat :=
  match r.kind with
  | .read => readBeats r.words
  | .lockRead => 1
  | .write | .unlockWrite => if r.confirm then 1 else 0
  | .notice | .recall | .faultReport => 0

/-- The memory kinds are tagged (R60). -/
def Request.tagged (r : Request) : Bool :=
  match r.kind with
  | .read | .write | .lockRead | .unlockWrite => true
  | .notice | .recall | .faultReport => false

/-- The request's destination is an Exchange Memory offset: it is local (R78). -/
def Request.isLocal (r : Request) : Bool :=
  match r.dest with
  | .exchange _ => true
  | .span _ | .node _ => false

/-- Whether bit 2 of the request's Span address is set (R63). -/
def Request.upperWord (r : Request) : Bool :=
  match r.dest with
  | .span a => a.getLsbD 2
  | .exchange _ | .node _ => false

/-- Host-originated requests: all origins but NOTICE_SEND and RECALL_SEND (R75). -/
def Origin.fromHost : Origin → Bool
  | .noticeSend | .recallSend => false
  | .hostWrite | .hostFetch | .lookahead | .lockFetch | .lockStore | .lockRelease => true

/-- The worse of two statuses in the order GOOD, MENDED, SPOILED (R62, R85). -/
def DataStatus.worse : DataStatus → DataStatus → DataStatus
  | .spoiled, _ | _, .spoiled => .spoiled
  | .mended, _ | _, .mended => .mended
  | .good, .good => .good

/-- The data status byte of the LOCK report (R156). -/
def DataStatus.reportByte : DataStatus → Byte
  | .good => 0
  | .mended => 1
  | .spoiled => 2

/-- The lock state number of the ENGINE and LOCK reports (R155, R156). -/
def LockState.reportByte : LockState → Byte
  | .none => 0
  | .fetching => 1
  | .held => 2
  | .storing => 3
  | .releasing => 4

end Sys2Proof.Machine

namespace Sys2Proof

/-! ### Well-formed packets (R61) -/

/-- Length 1, 2, 4 or 8 words, 2 for the lock kinds; the address a multiple of the length in bytes. -/
def MemoryPacket.wellFormed (p : MemoryPacket) : Bool :=
  (p.words == 1 || p.words == 2 || p.words == 4 || p.words == 8) &&
    p.address.toNat % (4 * p.words) == 0 &&
    (match p.kind with
      | .lockRead | .unlockWrite => p.words == 2
      | .read | .write => true)

/-- Level 0 to 3. -/
def NoticePacket.wellFormed (p : NoticePacket) : Bool := p.level ≤ 3

/-- Beat number 0 to 3. -/
def BeatPacket.wellFormed (p : BeatPacket) : Bool := p.beat.number ≤ 3

/-- A memory kind as a request kind. -/
def MemoryKind.kind : MemoryKind → Kind
  | .read => .read
  | .write => .write
  | .lockRead => .lockRead
  | .unlockWrite => .unlockWrite

/-- The bit of a kind in a gate entry's KINDS (R118). -/
def MemoryKind.gateBit : MemoryKind → Nat
  | .read => 0
  | .write => 1
  | .lockRead => 2
  | .unlockWrite => 3

/-- The kind byte of the FAULT report (R146). -/
def Kind.reportByte : Kind → Byte
  | .read => 0
  | .write => 1
  | .lockRead => 2
  | .unlockWrite => 3
  | .notice => 4
  | .recall => 5
  | .faultReport => 6

/-- The status of a beat as a data status; HELD is outside the order (R62) and is handled before this is used. -/
def BeatStatus.data : BeatStatus → Machine.DataStatus
  | .good | .held => .good
  | .mended => .mended
  | .spoiled => .spoiled

end Sys2Proof
end

