-- ==== Sys2Proof/Machine/Flags.lean ====
section
/-! DEFINITION. The outputs that the bridge computes from its state: BUSY and the status byte (R10, R15), ATN (R135),
the CLAIM line (R109, R111), the drain condition (R17) and the test for sleep (R162). -/

namespace Sys2Proof.Machine

/-- The bridge is neither in reset nor in reset initialization. -/
def State.running (s : State) : Bool := s.power.mode == .running

/-- BUSY follows the staging slot, and reads 1 throughout reset and initialization (R10, R11). -/
def State.busy (s : State) : Bool := s.streams.staging.isSome || !s.running

/-- The capture record holds a hard fault (R143). -/
def FaultLog.hard (l : FaultLog) : Bool := l.capture.any fun f => f.code.hard

/-- The capture record holds a soft fault (R135, R143). -/
def FaultLog.soft (l : FaultLog) : Bool := l.capture.any fun f => !f.code.hard

/-- The ATN output (R135): deasserted in reset, else asserted while an enabled source holds. -/
def State.atn (s : State) : Bool :=
  s.running &&
    (((s.setting 0).getLsbD 0 && s.log.hard) ||
      ((s.setting 0).getLsbD 1 && s.log.soft) ||
      ((s.setting 0).getLsbD 2 && s.notices.queue.any fun r => s.threshold ≤ r.level) ||
      ((s.setting 0).getLsbD 3 && s.host.idleLatch))

/-- The first offset of the unit that contains an offset: its block in OFFSET-MAJOR, its word in PAGE-MAJOR (R38). -/
def Addressing.unitFirst (a : Addressing) : Byte :=
  if a.pageMajor then a.offCtr &&& 0xFC#8 else a.offCtr &&& 0xE0#8

/-- The current buffer is VALID and its unit contains the current address (R15). -/
def State.currentReady (s : State) : Bool :=
  match s.streams.current.state with
  | .valid _ => s.streams.current.page == s.addr.pageCtr && s.streams.current.first == s.addr.unitFirst
  | .empty | .fetching _ | .failed => false

/-- READY (R15). -/
def State.ready (s : State) : Bool :=
  match s.host.decoder with
  | .readStream => s.currentReady
  | .report => s.host.reportPointer < s.host.reportLength
  | .idle | .collecting | .writeStream => false

/-- MODE (R15). -/
def Decoder.mode : Decoder → Byte
  | .idle | .collecting => 0
  | .writeStream => 1
  | .readStream => 2
  | .report => 3

/-- The status byte (R15); 80h throughout reset and initialization (assumption log 20, DEDUCED, safe). -/
def State.statusByte (s : State) : Byte :=
  if !s.running then 0x80#8
  else
    bit 7 s.busy ||| bit 6 s.ready ||| bit 5 (s.addr.pageEdge || s.addr.offEdge) ||| bit 4 s.atn |||
      bit 3 s.log.hard ||| bit 2 s.power.asleep ||| s.host.decoder.mode

/-- The CLAIM line as it stands, driven by any node (R109, R155). -/
def State.claimLine (s : State) : Bool := s.pins.claimOthers || s.ilu.claim.driving

/-- The CLAIM line as obedience counts it: asserted, and not by the bridge (R111). -/
def State.claimHolds (s : State) : Bool := s.claimLine && !s.ilu.claim.driving

/-- A tag is BUSY. -/
def TagState.isBusy : TagState → Bool
  | .busy _ => true
  | .free | .quarantine _ => false

/-- A tag is FREE. -/
def TagState.isFree : TagState → Bool
  | .free => true
  | .busy _ | .quarantine _ => false

/-- The drain condition (R17). -/
def State.drained (s : State) : Bool :=
  s.streams.pack.isNone && s.streams.staging.isNone && s.engine.queue.isEmpty && s.engine.sendPoint.isNone &&
    !s.engine.tags.toList.any TagState.isBusy

/-- Every condition under which SLEEP is accepted (R162). An orphaned offer still outstanding does not refuse it, though R76
wants the outstanding offer empty too (assumption log 21, DESIGN CHOICE, unsafe). -/
def State.maySleep (s : State) : Bool :=
  s.streams.pack.isNone && s.streams.staging.isNone && s.streams.deferred.isNone && s.ilu.waiting.isNone &&
    s.engine.queue.isEmpty && s.engine.sendPoint.isNone && !s.engine.abandoned &&
    s.engine.tags.toList.all TagState.isFree && s.engine.reports.isEmpty && s.inbound.queue.isEmpty &&
    s.ilu.table.isEmpty && s.ilu.lock.state == .none

end Sys2Proof.Machine
end

