-- ==== Sys2Proof/Machine/Ops.lean ====
section
/-! DEFINITION. The operations every block shares: Exchange Memory, the Fault Log, timers, the serial number, the
Outbound Queue's tail, tags, and the placing of host requests. -/

namespace Sys2Proof.Machine

/-- The outcome of a command. Every meaning answers a next state: the manual gives every command an effect in every
state (assumption log 3). -/
abbrev Result := Host.Outcome State Fault Refusal

/-! ### Exchange Memory (R112) -/

/-- What a byte that no write has reached reads as: power-on reset sets every byte to 00h (R112). -/
def unwritten : Byte := 0x00#8

/-- The byte at an address. -/
def Memory.read : Memory → Nat → Byte
  | [], _ => unwritten
  | (k, v) :: rest, a => if k = a then v else Memory.read rest a

/-- Writes one byte, keeping the canonical form: rising addresses, no entry equal to `unwritten`. -/
def Memory.write : Memory → Nat → Byte → Memory
  | [], a, v => if v = unwritten then [] else [(a, v)]
  | (k, w) :: rest, a, v =>
    if a < k then (if v = unwritten then (k, w) :: rest else (a, v) :: (k, w) :: rest)
    else if a = k then (if v = unwritten then rest else (a, v) :: rest)
    else (k, w) :: Memory.write rest a v

/-- Every address of the list lies above `low`. -/
def Memory.above (low : Nat) (m : Memory) : Bool := m.all fun c => low < c.1

/-- The canonical form. -/
def Memory.wf : Memory → Bool
  | [] => true
  | (k, v) :: rest => v != unwritten && Memory.above k rest && Memory.wf rest

/-- The bytes from an offset on, in address order. Offsets are naturally aligned (R61), so none passes 2047. -/
def Memory.readBytes (m : Memory) (o : ExOffset) : Nat → List Byte
  | 0 => []
  | n + 1 => m.read o.toNat :: m.readBytes (o + 1#11) n

/-- Writes each byte whose enable is set, from an offset on (R123). -/
def Memory.writeBytes (m : Memory) (o : ExOffset) : List Bool → List Byte → Memory
  | e :: es, b :: bs => (if e then m.write o.toNat b else m).writeBytes (o + 1#11) es bs
  | _, _ => m

/-! ### Logging faults (R140, R141) -/

/-- A fault with an origin and no other field (R139). -/
def bareFault (c : FaultCode) (o : FaultOrigin) : FaultRecord :=
  { code := c, origin := o, tag := none, kind := none, address := none, page := none, offset := none, peer := none }

/-- A host port fault: origin HOST_PORT and no other field (R1, R139). -/
def hostFault (c : FaultCode) : FaultRecord := bareFault c .hostPort

/-- Adds a fault to the batch being handled. -/
def State.raise (f : FaultRecord) (s : State) : State := { s with raised := s.raised ++ [f] }

/-- The capture record after one more fault (R140). -/
def FaultLog.captureNext (l : FaultLog) (f : FaultRecord) : Option FaultRecord :=
  match l.capture with
  | none => some f
  | some g => if f.code.hard && !g.code.hard then some f else some g

/-- Adds one to a counter that stays at its maximum. -/
def saturate {n : Nat} (x : BitVec n) : BitVec n := if x = BitVec.allOnes n then x else x + 1

/-- Logs one fault: summary, capture, counter (R140). -/
def FaultLog.log (l : FaultLog) (f : FaultRecord) : FaultLog :=
  { capture := l.captureNext f
    overflow := l.overflow || (f.code.hard && l.hard)
    summary := l.summary ||| BitVec.twoPow 32 f.code.number
    mended := if f.code = .mapMended ∨ f.code = .dataMended then saturate l.mended else l.mended }

/-- The place of a fault in its batch: hard before soft, then ascending code (R141). -/
def FaultRecord.rank (f : FaultRecord) : Nat := (if f.code.hard then 0 else 256) + f.code.number

/-- Puts a fault in front of the first of higher or equal rank. -/
def insertFault (f : FaultRecord) : List FaultRecord → List FaultRecord
  | [] => [f]
  | g :: rest => if f.rank ≤ g.rank then f :: g :: rest else g :: insertFault f rest

/-- A batch in the order in which it is logged; equal codes keep the order in which they were raised (R141). -/
def orderBatch (fs : List FaultRecord) : List FaultRecord := fs.foldr insertFault []

/-- Logs the batch handled so far (R141). In reset and initialization no fault is logged (R138). -/
def State.logBatch (s : State) : State :=
  if s.running then { s with raised := [], log := (orderBatch s.raised).foldl FaultLog.log s.log }
  else { s with raised := [] }

/-! ### Timers (R149) -/

/-- The ticks of a limit code 1 to 15. -/
def limitTicks (c : LimitCode) : Nat := 2 ^ (c.toNat - 1)

/-- A timer started now with a limit code: it expires at the first tick boundary at or after its limit (R149;
assumption log 9, DEDUCED, unsafe). -/
def State.startTimer (s : State) (c : LimitCode) : Timer :=
  { due := if c = 0 then none else some (s.sched.tick + (if s.sched.onGrid then 0 else 1) + limitTicks c) }

/-- A quarantine timer: the RESPONSE LIMIT, or 51.2 ms (code 11) if that is code 0 (R87). -/
def State.startQuarantine (s : State) : Timer :=
  s.startTimer (if s.responseLimit = 0 then 11 else s.responseLimit)

/-- A running timer whose boundary has come. -/
def Timer.isDue (t : Timer) (tick : Nat) : Bool :=
  match t.due with
  | none => false
  | some d => d ≤ tick

/-- A timer that may not be running. -/
def timerDue (t : Option Timer) (tick : Nat) : Bool := t.any fun t => t.isDue tick

/-- The window after an offer: it starts at the first one and is not restarted (R82). -/
def State.offerWindow (s : State) (w : RetryWindow) : RetryWindow :=
  if w.timer.isNone && !w.expired then { w with timer := some (s.startTimer s.retryLimit) } else w

/-- The window after an expiry that an outstanding offer or an awaited beat leaves undecided (R82, R88). -/
def RetryWindow.expire (_ : RetryWindow) : RetryWindow := { timer := none, expired := true }

/-! ### Serial numbers -/

/-- Takes the next serial number. -/
def State.takeSerial (s : State) : State := { s with sched := { s.sched with serial := s.sched.serial + 1 } }

/-! ### The Outbound Queue (R77) -/

/-- An entry as it enters at the tail. -/
def QueueEntry.tail (r : Request) : QueueEntry :=
  { req := r, front := false, rereadMark := false, window := .fresh, waitTick := false }

/-- The queue has a free entry: it holds fewer than 8 requests. -/
def State.freeEntry (s : State) : Bool := s.engine.queue.length < 8

/-- Enters a request at the tail. -/
def State.enqueue (r : Request) (s : State) : State :=
  { s with engine := { s.engine with queue := s.engine.queue ++ [.tail r] } }

/-- Puts an entry behind the earlier front placements and ahead of every tail entry. -/
def insertFront (e : QueueEntry) : List QueueEntry → List QueueEntry
  | [] => [e]
  | f :: rest => if f.front then f :: insertFront e rest else e :: f :: rest

/-- A front placement, made whatever the occupancy. -/
def State.enqueueFront (e : QueueEntry) (s : State) : State :=
  { s with engine := { s.engine with queue := insertFront e s.engine.queue } }

/-- Puts a request in the staging slot, which sets BUSY (R35). -/
def State.stage (r : Request) (s : State) : State := { s with streams := { s.streams with staging := some r } }

/-- Places a host request: the queue if it has a free entry, else the staging slot, else the deferred request (R35). -/
def State.place (r : Request) (s : State) : State :=
  if s.freeEntry then s.enqueue r
  else if s.streams.staging.isNone then s.stage r
  else { s with streams := { s.streams with deferred := some r } }

/-- Moves the staged request into the queue, then places the deferred request (R35). -/
def State.enterStaged (s : State) : State :=
  match s.streams.staging with
  | none => s
  | some r =>
    let entered := ({ s with streams := { s.streams with staging := none } } : State).enqueue r
    match s.streams.deferred with
    | none => entered
    | some d => ({ entered with streams := { entered.streams with deferred := none } } : State).place d

/-- A staged request can enter: the queue has a free entry (R35). -/
def State.stagedCanEnter (s : State) : Bool := s.freeEntry && s.streams.staging.isSome

/-- An entry of the queue has freed: a staged request enters before any other (R35). -/
def State.entryFreed (s : State) : State := if s.stagedCanEnter then s.enterStaged else s

/-! ### Tags (R84) -/

/-- The state of a tag. -/
def State.tag (s : State) (t : Tag) : TagState := s.engine.tags.get t

/-- Changes the state of a tag. -/
def State.setTag (t : Tag) (st : TagState) (s : State) : State :=
  { s with engine := { s.engine with tags := s.engine.tags.set t.val st } }

/-- Changes the state of the tag a request may hold. -/
def State.setTag? (t : Option Tag) (st : TagState) (s : State) : State :=
  match t with
  | none => s
  | some t => s.setTag t st

/-- Puts a tag in QUARANTINE with a new timer (R87). -/
def State.quarantine (t : Tag) (s : State) : State := s.setTag t (.quarantine s.startQuarantine)

/-- The lowest-numbered FREE tag (R79). -/
def State.lowestFree (s : State) : Option Tag := (List.finRange 4).find? fun t => (s.tag t).isFree

/-! ### The Read Buffers' results and invalidation (R39, R43) -/

/-- The buffer after its fetch ended, with the data or without (R39). -/
def ReadBuffer.settle (b : ReadBuffer) (data : Option (List Byte)) : ReadBuffer :=
  match data with
  | some d => { b with state := .valid d }
  | none => { b with state := .failed }

/-- Hands the result of a fetch to the buffer bound to it; without one it is discarded (R39). -/
def State.fetchResult (serial : Nat) (data : Option (List Byte)) (s : State) : State :=
  if s.streams.current.state = .fetching serial then
    { s with streams := { s.streams with current := s.streams.current.settle data } }
  else if s.streams.ahead.state = .fetching serial then
    { s with streams := { s.streams with ahead := s.streams.ahead.settle data } }
  else s

/-- Makes both Read Buffers EMPTY and drops the deferred request (R43). -/
def State.invalidate (s : State) : State :=
  { s with streams := { s.streams with current := .empty, ahead := .empty, deferred := none } }

end Sys2Proof.Machine
end

