-- ==== Sys2Proof/Machine/WindowMap.lean ====
section
/-! DEFINITION. The Window Map (chapter 3): the check of an entry, the scrub, translation and the MAP READ report. -/

namespace Sys2Proof.Machine

/-! ### The entry and its check (R44, R47) -/

/-- The 36 data bits, the flags above the FRAME. -/
def MapEntry.dataBits (e : MapEntry) : BitVec 36 := e.flags ++ e.frame

/-- All 43 stored bits. -/
def MapEntry.bits (e : MapEntry) : BitVec 43 := e.check ++ e.dataBits

/-- The entry with the given 43 stored bits. -/
def MapEntry.ofBits (b : BitVec 43) : MapEntry :=
  { flags := b.extractLsb' 28 8, frame := b.extractLsb' 0 28, check := b.extractLsb' 36 7 }

/-- The entry with one stored bit inverted. -/
def MapEntry.flip (e : MapEntry) (i : Fin 43) : MapEntry := .ofBits (e.bits ^^^ BitVec.twoPow 43 i.val)

/-- A consistent entry: its check field is the one the code computes (R47). -/
def MapEntry.consistent (e : MapEntry) : Bool := Config.checkCode.field e.dataBits == e.check

/-- The consistent entry of some data bits (R45). -/
def MapEntry.computed (flags : Byte) (frame : Frame) : MapEntry :=
  { flags := flags, frame := frame, check := Config.checkCode.field (flags ++ frame) }

/-- The three outcomes of a check (R47). -/
inductive CheckOutcome
  | clean
  | mended (corrected : MapEntry)
  | spoiled
deriving DecidableEq, Repr

/-- Classifies the stored bits: consistent, one position from a consistent entry, or neither (R47). -/
def MapEntry.classify (e : MapEntry) : CheckOutcome :=
  if e.consistent then .clean
  else
    match (List.finRange 43).find? fun i => (e.flip i).consistent with
    | some i => .mended (e.flip i)
    | none => .spoiled

/-- VALID. -/
def MapEntry.valid (e : MapEntry) : Bool := e.flags.getLsbD 7
/-- DEST is EXCHANGE. -/
def MapEntry.toExchange (e : MapEntry) : Bool := e.flags.getLsbD 6
/-- The READ right. -/
def MapEntry.mayRead (e : MapEntry) : Bool := e.flags.getLsbD 5
/-- The WRITE right. -/
def MapEntry.mayWrite (e : MapEntry) : Bool := e.flags.getLsbD 4
/-- The LOCK right. -/
def MapEntry.mayLock (e : MapEntry) : Bool := e.flags.getLsbD 3
/-- CONFIRM. -/
def MapEntry.confirm (e : MapEntry) : Bool := e.flags.getLsbD 2
/-- PREFETCH. -/
def MapEntry.prefetch (e : MapEntry) : Bool := e.flags.getLsbD 1
/-- REREAD. -/
def MapEntry.reread (e : MapEntry) : Bool := e.flags.getLsbD 0

/-- The stored entry of a window page. -/
def State.mapEntry (s : State) (page : Byte) : MapEntry := s.map.get page.toFin

/-- Replaces all 43 bits of the entry of a window page. -/
def State.setMapEntry (page : Byte) (e : MapEntry) (s : State) : State :=
  { s with map := s.map.set page.toNat e page.isLt }

/-! ### Translation (R49 to R53) -/

/-- The access kinds of a translation (section 3.3). -/
inductive AccessKind
  | read | write | lock
deriving DecidableEq, Repr

/-- The kind of Span packet the request would have been (R52). -/
def AccessKind.packet : AccessKind → Kind
  | .read => .read
  | .write => .write
  | .lock => .lockRead

/-- The rights an access kind requires are all set (R50, step 3). -/
def MapEntry.permits (e : MapEntry) : AccessKind → Bool
  | .read => e.mayRead
  | .write => e.mayWrite
  | .lock => e.mayLock && e.mayRead

/-- The result of a translation: destination and map attributes. -/
structure Translation where
  dest : Dest
  confirm : Bool
  prefetch : Bool
  reread : Bool
deriving DecidableEq, Repr

/-- Steps 2 to 4 of a translation, on the entry that step 1 gives (R50). -/
def MapEntry.resolve (e : MapEntry) (offset : Byte) (kind : AccessKind) : Except FaultCode Translation :=
  if !e.valid then .error .mapInvalid
  else if !e.permits kind then .error .mapRights
  else if e.toExchange then
    if e.frame.toNat ≤ 7 then
      .ok { dest := .exchange (e.frame.setWidth 3 ++ offset), confirm := e.confirm, prefetch := e.prefetch,
            reread := e.reread }
    else .error .mapRange
  else .ok { dest := .span (e.frame ++ offset), confirm := e.confirm, prefetch := e.prefetch, reread := e.reread }

/-- A fault with origin MAP and the fields of R52: the window page and offset of the occasion and its packet kind. -/
def mapFault (c : FaultCode) (kind : AccessKind) (page offset : Byte) : FaultRecord :=
  { code := c, origin := .map, tag := none, kind := some kind.packet, address := none, page := some page,
    offset := some offset, peer := none }

/-- Raises a fault unless the translation is silent (R53). -/
def State.raiseUnless (silent : Bool) (f : FaultRecord) (s : State) : State := if silent then s else s.raise f

/-- Steps 2 to 4, with the fault of the step that fails. -/
def State.resolve (e : MapEntry) (offset : Byte) (kind : AccessKind) (silent : Bool) (wpage woffset : Byte)
    (s : State) : State × Option Translation :=
  match e.resolve offset kind with
  | .ok t => (s, some t)
  | .error c => (s.raiseUnless silent (mapFault c kind wpage woffset), none)

/-- Translates a page and offset (R50). `wpage` and `woffset` are the capture fields of the occasion (R52). A MENDED
entry is scrubbed with MAP_MENDED, silent or not (R48, R53). -/
def State.translate (page offset : Byte) (kind : AccessKind) (silent : Bool) (wpage woffset : Byte) (s : State) :
    State × Option Translation :=
  match (s.mapEntry page).classify with
  | .spoiled => (s.raiseUnless silent (mapFault .mapSpoiled kind wpage woffset), none)
  | .clean => s.resolve (s.mapEntry page) offset kind silent wpage woffset
  | .mended c =>
    State.resolve c offset kind silent wpage woffset
      ((s.setMapEntry page c).raise (mapFault .mapMended kind wpage woffset))

/-! ### MAP READ (R55, R56) -/

/-- A fault of MAP READ: origin MAP and the index as window page (R55). -/
def mapReadFault (c : FaultCode) (index : Byte) : FaultRecord :=
  { bareFault c .map with page := some index }

/-- The 7-byte report of an entry and an outcome number (R56). -/
def MapEntry.report (e : MapEntry) (outcome : Byte) : List Byte :=
  [e.flags, e.frame.extractLsb' 0 8, e.frame.extractLsb' 8 8, e.frame.extractLsb' 16 8,
    (e.frame.extractLsb' 24 4).setWidth 8, e.check.setWidth 8, outcome]

/-- Reads and classifies an entry for MAP READ, with the scrub and the faults of R55, and forms its report. -/
def State.readMapEntry (index : Byte) (s : State) : State × List Byte :=
  match (s.mapEntry index).classify with
  | .clean => (s, (s.mapEntry index).report 0)
  | .mended c => ((s.setMapEntry index c).raise (mapReadFault .mapMended index), c.report 1)
  | .spoiled => (s.raise (mapReadFault .mapSpoiled index), (s.mapEntry index).report 2)

/-! ### MAP WRITE (R45, R46) -/

/-- The FRAME of four parameter bytes, least significant first. -/
def frameOfBytes (b0 b1 b2 b3 : Byte) : Frame := b3.setWidth 4 ++ b2 ++ b1 ++ b0

/-- Bits 4 to 7 of the last FRAME byte are 0. -/
def frameInRange (b3 : Byte) : Bool := b3.extractLsb' 4 4 == 0#4

/-- An upset inverts one stored bit (R47, R164). -/
def State.upset (page : Byte) (position : Fin 43) (s : State) : State :=
  s.setMapEntry page ((s.mapEntry page).flip position)

end Sys2Proof.Machine
end

