-- ==== Sys2Proof/Machine/Streams.lean ====
section
/-! DEFINITION. The Stream Sequencer (chapter 2): stepping and the addressing commands, the Write Combiner, and the
Read Buffers with their demand and look-ahead fetches. -/

namespace Sys2Proof.Machine

/-! ### Counters (R22) -/

/-- The page counter's lock value in its direction. -/
def Addressing.pageLock (a : Addressing) : Byte := if a.pageDec then a.low else a.high

/-- The offset counter's lock value in its direction. -/
def Addressing.offLock (a : Addressing) : Byte := if a.offDec then 0#8 else 255#8

/-- One place on in a direction. -/
def oneOn (dec : Bool) (x : Byte) : Byte := if dec then x - 1 else x + 1

/-- Steps the page counter, or locks it and sets its edge flag. -/
def Addressing.stepPage (a : Addressing) : Addressing :=
  if a.pageCtr = a.pageLock then { a with pageEdge := true } else { a with pageCtr := oneOn a.pageDec a.pageCtr }

/-- Steps the offset counter, or locks it and sets its edge flag. -/
def Addressing.stepOffset (a : Addressing) : Addressing :=
  if a.offCtr = a.offLock then { a with offEdge := true } else { a with offCtr := oneOn a.offDec a.offCtr }

/-- Steps the counter of the major axis. -/
def Addressing.stepMajor (a : Addressing) : Addressing := if a.pageMajor then a.stepPage else a.stepOffset

/-- A page lies between the limits. -/
def Addressing.within (a : Addressing) (page : Byte) : Bool := a.low ≤ page && page ≤ a.high

/-! ### Addressing commands (R23 to R30); `none` where the check of the page fails -/

/-- SET PAGE (R23). -/
def Addressing.setPage (a : Addressing) (page : Byte) : Option Addressing :=
  if a.within page then some { a with pageReg := page, pageCtr := page, pageEdge := false } else none

/-- SET OFFSET (R24). -/
def Addressing.setOffset (a : Addressing) (offset : Byte) : Addressing :=
  { a with offReg := offset, offCtr := offset, offEdge := false }

/-- SET ADDRESS (R25). -/
def Addressing.setAddress (a : Addressing) (page offset : Byte) : Option Addressing :=
  (a.setPage page).map fun b => b.setOffset offset

/-- DIRECTION, on a byte whose bits 3 to 7 are 0 (R26). -/
def Addressing.setDirection (a : Addressing) (d : Byte) : Addressing :=
  { a with offDec := d.getLsbD 0, pageDec := d.getLsbD 1, pageMajor := d.getLsbD 2 }

/-- WINDOW LIMIT, with high not less than low (R27). -/
def Addressing.setLimits (a : Addressing) (low high : Byte) : Addressing :=
  let b : Addressing := { a with low := low, high := high, pageEdge := false }
  if b.within a.pageReg && b.within a.pageCtr then b else { b with pageReg := low, pageCtr := low }

/-- NEXT LINE (R28). -/
def Addressing.nextLine (a : Addressing) : Addressing :=
  if a.pageMajor then ({ a with pageCtr := a.pageReg, pageEdge := false } : Addressing).stepOffset
  else ({ a with offCtr := a.offReg, offEdge := false } : Addressing).stepPage

/-- RELOAD (R29). -/
def Addressing.reload (a : Addressing) : Addressing :=
  { a with pageCtr := a.pageReg, offCtr := a.offReg, pageEdge := false, offEdge := false }

/-- CLEAR COUNTERS (R30). -/
def Addressing.clear (a : Addressing) : Addressing :=
  { a with pageReg := a.low, pageCtr := a.low, offReg := 0, offCtr := 0, pageEdge := false, offEdge := false }

/-- The partial SET ADDRESS: the page register alone, if the page lies within the limits (R8). -/
def Addressing.storePage (a : Addressing) (page : Byte) : Addressing :=
  if a.within page then { a with pageReg := page } else a

/-! ### Sealing (R34) -/

/-- The enabled positions, ascending. -/
def Pack.positions (p : Pack) : List Nat :=
  (List.finRange 32).filterMap fun i => if (p.bytes.get i).isSome then some i.val else none

/-- The smallest of 1, 2, 4 and 8 words whose naturally aligned span covers words `lo` to `hi` (R34). -/
def spanWords (lo hi : Nat) : Nat :=
  if lo = hi then 1 else if lo / 2 = hi / 2 then 2 else if lo / 4 = hi / 4 then 4 else 8

/-- The lowest enabled position. -/
def Pack.lowest (p : Pack) : Nat := p.positions.headD 0

/-- The highest enabled position. -/
def Pack.highest (p : Pack) : Nat := p.positions.getLastD 0

/-- The request's length in words. -/
def Pack.words (p : Pack) : Nat := spanWords (p.lowest / 4) (p.highest / 4)

/-- The position of the first byte of the span. -/
def Pack.start (p : Pack) : Nat := p.lowest / 4 / p.words * p.words * 4

/-- The window offset of a position of the block. -/
def Pack.offsetOf (p : Pack) (position : Nat) : Byte := BitVec.ofNat 8 (32 * p.block.val + position)

/-- The span's positions, each with its byte if enabled. -/
def Pack.span (p : Pack) : List (Option Byte) := (p.bytes.toList.drop p.start).take (4 * p.words)

/-- The WRITE request of a pack and its translation (R34). -/
def Pack.request (p : Pack) (t : Translation) (serial : Nat) : Request :=
  { serial := serial, origin := .hostWrite, kind := .write, dest := t.dest, words := p.words,
    enables := p.span.map Option.isSome, data := p.span.map fun b => b.getD 0#8, note := none, confirm := t.confirm,
    reread := t.reread, window := some (p.page, p.offsetOf p.lowest), abortRelease := false }

/-- Closes the pack, without a request. -/
def State.dropPack (s : State) : State := { s with streams := { s.streams with pack := none } }

/-- Seals the open pack, if there is one: a request, or a fault and the loss of its data (R34). -/
def State.seal (s : State) : State :=
  match s.streams.pack with
  | none => s
  | some p =>
    let r := s.dropPack.translate p.page (p.offsetOf p.start) .write false p.page (p.offsetOf p.lowest)
    match r.2 with
    | none => r.1
    | some t => r.1.takeSerial.place (p.request t r.1.sched.serial)

/-! ### Merging a data byte (R32) -/

/-- The block of an offset. -/
def blockOf (offset : Byte) : Fin 8 := ⟨offset.toNat / 32, by have := offset.isLt; omega⟩

/-- The position of an offset within its block. -/
def positionOf (offset : Byte) : Fin 32 := ⟨offset.toNat % 32, by omega⟩

/-- A pack with nothing in it, for the page and block of the current address. -/
def Addressing.newPack (a : Addressing) : Pack :=
  { page := a.pageCtr, block := blockOf a.offCtr, bytes := Vector.replicate 32 none }

/-- The open pack is for the page and block of the current address. -/
def Addressing.inPack (a : Addressing) (p : Pack) : Bool := p.page == a.pageCtr && p.block == blockOf a.offCtr

/-- Stores a byte at the position of an offset and enables it. -/
def Pack.put (p : Pack) (offset : Byte) (b : Byte) : Pack :=
  { p with bytes := p.bytes.set (positionOf offset).val (some b) }

/-- Every position is enabled. -/
def Pack.full (p : Pack) : Bool := p.bytes.toList.all Option.isSome

/-- The pack a byte joins: the open one if it is for the current address, else a new one (R32, actions 1 and 2). -/
def State.packHere (s : State) : Pack :=
  match s.streams.pack with
  | some p => if s.addr.inPack p then p else s.addr.newPack
  | none => s.addr.newPack

/-- Seals an open pack that is for another page or block (R32, action 2). -/
def State.sealOther (s : State) : State :=
  match s.streams.pack with
  | some p => if s.addr.inPack p then s else s.seal
  | none => s

/-- Steps the major counter. -/
def State.stepMajor (s : State) : State := { s with addr := s.addr.stepMajor }

/-- Replaces the open pack. -/
def State.setPack (p : Pack) (s : State) : State := { s with streams := { s.streams with pack := some p } }

/-- Handles a data byte accepted in WRITE STREAM: actions 1 to 5 of R32. -/
def State.mergeByte (b : Byte) (s : State) : State :=
  let p := s.packHere.put s.addr.offCtr b
  let merged := s.sealOther.setPack p
  (if p.full then merged.seal else merged).stepMajor

/-! ### Fetches (R38, R42) -/

/-- The words of a unit (R38). -/
def Addressing.unitWords (a : Addressing) : Nat := if a.pageMajor then 1 else 8

/-- The READ request of a fetch. -/
def fetchRequest (origin : Origin) (words : Nat) (t : Translation) (page offset : Byte) (serial : Nat) : Request :=
  { serial := serial, origin := origin, kind := .read, dest := t.dest, words := words, enables := [], data := [],
    note := none, confirm := t.confirm, reread := t.reread, window := some (page, offset), abortRelease := false }

/-- Replaces the current buffer. -/
def State.setCurrent (b : ReadBuffer) (s : State) : State := { s with streams := { s.streams with current := b } }

/-- Replaces the look-ahead buffer. -/
def State.setAhead (b : ReadBuffer) (s : State) : State := { s with streams := { s.streams with ahead := b } }

/-- A buffer for a unit that nothing has been served from. -/
def unitBuffer (st : BufferState) (page first : Byte) : ReadBuffer :=
  { state := st, page := page, first := first, opened := false }

/-- A demand fetch of the unit containing the current address, into the current buffer (R38). -/
def State.demandFetch (s : State) : State :=
  let a := s.addr
  let r := s.translate a.pageCtr a.unitFirst .read false a.pageCtr a.offCtr
  match r.2 with
  | none => r.1.setCurrent (unitBuffer .failed a.pageCtr a.unitFirst)
  | some t =>
    ((r.1.setCurrent (unitBuffer (.fetching r.1.sched.serial) a.pageCtr a.unitFirst)).takeSerial).place
      (fetchRequest .hostFetch a.unitWords t a.pageCtr a.offCtr r.1.sched.serial)

/-- The next unit of the stream (R42, condition 2): its page, its first offset, and the first offset that the stream
will reach. -/
def Addressing.nextUnit (a : Addressing) : Option (Byte × Byte × Byte) :=
  if a.pageMajor then
    if a.pageCtr = a.pageLock then none else some (oneOn a.pageDec a.pageCtr, a.unitFirst, a.offCtr)
  else if a.offDec then
    if a.unitFirst = 0#8 then none else some (a.pageCtr, a.unitFirst - 32, a.unitFirst - 1)
  else if a.unitFirst = 0xE0#8 then none
  else some (a.pageCtr, a.unitFirst + 32, a.unitFirst + 32)

/-- The look-ahead test and its fetch (R42, conditions 1 to 5 in order). -/
def State.lookAhead (s : State) : State :=
  if s.streams.ahead.state = .empty then
    match s.addr.nextUnit with
    | none => s
    | some (page, first, reached) =>
      if s.freeEntry && s.streams.staging.isNone then
        let r := s.translate page first .read true page reached
        match r.2 with
        | none => r.1
        | some t =>
          if t.prefetch then
            ((r.1.setAhead (unitBuffer (.fetching r.1.sched.serial) page first)).takeSerial).enqueue
              (fetchRequest .lookahead s.addr.unitWords t page reached r.1.sched.serial)
          else r.1
      else s
  else s

/-! ### Serving a data read (R40, R41) -/

/-- The step from `before` left the unit: the block changed, or the page counter did (R41). -/
def Addressing.leftUnit (before after : Addressing) : Bool :=
  if before.pageMajor then before.pageCtr != after.pageCtr else blockOf before.offCtr != blockOf after.offCtr

/-- Moves on after a step that left the unit (R41). -/
def State.moveOn (s : State) : State :=
  if s.streams.ahead.state = .empty then (s.setCurrent .empty).demandFetch
  else (s.setCurrent { s.streams.ahead with opened := false }).setAhead .empty

/-- Steps after a served read, and moves on if the step left the unit (R40). -/
def State.stepAndMove (s : State) : State :=
  let after := s.stepMajor
  if s.addr.leftUnit after.addr then after.moveOn else after

/-- Sets the opened mark of the current buffer. -/
def State.openCurrent (s : State) : State := s.setCurrent { s.streams.current with opened := true }

/-- The byte of a unit's data at an offset. -/
def unitByte (data : List Byte) (first offset : Byte) : Byte := data.getD (offset - first).toNat 0#8

/-- UNDERRUN of a data read in READ STREAM (R40). -/
def windowUnderrun (a : Addressing) : FaultRecord :=
  { bareFault .underrun .window with page := some a.pageCtr, offset := some a.offCtr }

/-- Serves a data read in READ STREAM: the byte and the state after it (R40). -/
def State.serveRead (s : State) : State × Byte :=
  match s.streams.current.state with
  | .valid data =>
    let tested := if s.streams.current.opened then s else s.openCurrent.lookAhead
    (tested.stepAndMove, unitByte data s.streams.current.first s.addr.offCtr)
  | .failed => (s.openCurrent.stepAndMove, 0#8)
  | .fetching _ | .empty => (s.raise (windowUnderrun s.addr), 0#8)

end Sys2Proof.Machine
end

