-- ==== Sys2Proof/Machine/Interlock.lean ====
section
/-! DEFINITION. The Interlock Unit (chapter 6): the host lock, the Lock Table, the report queue entries it creates
(R90) and the CLAIM state. -/

namespace Sys2Proof.Machine

/-- Replaces the host lock record. -/
def State.setLock (l : HostLock) (s : State) : State := { s with ilu := { s.ilu with lock := l } }

/-- Replaces the Lock Table. -/
def State.setTable (t : List LockEntry) (s : State) : State := { s with ilu := { s.ilu with table := t } }

/-- Replaces the CLAIM state. -/
def State.setClaim (c : Claim) (s : State) : State := { s with ilu := { s.ilu with claim := c } }

/-! ### Placing a lock request (R96) -/

/-- Places a lock request: the queue, else the staging slot, else it waits in the Interlock Unit (R96). -/
def State.placeLock (r : Request) (s : State) : State :=
  if s.freeEntry then s.enqueue r
  else if s.streams.staging.isNone then s.stage r
  else { s with ilu := { s.ilu with waiting := some r } }

/-- The waiting lock request can be placed again (R96). -/
def State.waitingCanPlace (s : State) : Bool :=
  s.ilu.waiting.isSome && (s.freeEntry || s.streams.staging.isNone)

/-- Places the waiting lock request again (R96). -/
def State.placeWaiting (s : State) : State :=
  match s.ilu.waiting with
  | none => s
  | some r => ({ s with ilu := { s.ilu with waiting := none } } : State).placeLock r

/-! ### The host lock record (R95) -/

/-- The destination of a lock's target. -/
def LockTarget.dest : LockTarget → Dest
  | .span a => .span a
  | .exchange i => .exchange (offsetOfDw i)

/-- The Span address of a lock's target, if it is one. -/
def LockTarget.address? : LockTarget → Option SpanAddr
  | .span a => some a
  | .exchange _ => none

/-- The state becomes NONE: the current request and the target become absent and the hold timer stops (R95). -/
def HostLock.clear (l : HostLock) : HostLock :=
  { l with state := .none, target := none, current := none, hold := none }

/-- Makes the host lock NONE. -/
def State.lockNone (s : State) : State := s.setLock s.ilu.lock.clear

/-- A fault of the host lock that carries kind LOCK-READ, the record's window page and offset, and for a Span target its
address (R95). -/
def HostLock.fault (l : HostLock) (c : FaultCode) : FaultRecord :=
  { code := c, origin := .lock, tag := none, kind := some .lockRead, address := l.target.bind LockTarget.address?,
    page := some l.page, offset := some l.offset, peer := none }

/-- PROTOCOL from a lock command: origin LOCK and no other field (R95). -/
def lockProtocol : FaultRecord := bareFault .protocol .lock

/-- A lock request of the record: 2 words at the recorded target, with the recorded attributes (R95). -/
def HostLock.request (l : HostLock) (origin : Origin) (kind : Kind) (target : LockTarget) (enables : List Bool)
    (data : List Byte) (serial : Nat) : Request :=
  { serial := serial, origin := origin, kind := kind, dest := target.dest, words := 2, enables := enables,
    data := data, note := none, confirm := l.confirm, reread := false, window := some (l.page, l.offset),
    abortRelease := false }

/-- The release of the lock: an UNLOCK-WRITE with no enable set and data zero (R101). -/
def HostLock.releaseRequest (l : HostLock) (target : LockTarget) (serial : Nat) : Request :=
  l.request .lockRelease .unlockWrite target (List.replicate 8 false) (List.replicate 8 0#8) serial

/-! ### CLAIM (R109, R110) -/

/-- Stops driving CLAIM and clears the waiting-to-assert flag (R110). -/
def Claim.release (c : Claim) : Claim := { c with driving := false, timer := none, waiting := false }

/-- Releases the CLAIM line. -/
def State.releaseClaim (s : State) : State := s.setClaim s.ilu.claim.release

/-- Drives CLAIM: the driving flag and the claim-used mark set and the claim timer starts (R109). -/
def State.driveClaim (s : State) : State :=
  s.setClaim { s.ilu.claim with driving := true, used := true, waiting := false,
                                timer := some (s.startTimer s.claimTime) }

/-- The count limit of the CLAIM setting, where 0 counts as 1 (R109). -/
def State.countLimit (s : State) : Nat := if s.claimLimit = 0 then 1 else s.claimLimit.toNat

/-- The assertion test passes (R109). -/
def State.assertionPasses (s : State) : Bool :=
  s.claimAssert && s.countLimit ≤ s.ilu.claim.heldCount.toNat && !s.ilu.claim.driving && !s.ilu.claim.waiting &&
    !s.ilu.claim.used

/-- The assertion test and what it leads to (R109). -/
def State.assertionTest (s : State) : State :=
  if s.assertionPasses then
    if s.claimLine then s.setClaim { s.ilu.claim with waiting := true } else s.driveClaim
  else s

/-- The examination of the line at the end of a step (R109). -/
def State.claimExam (s : State) : State :=
  if s.ilu.claim.waiting && !s.claimLine then s.driveClaim else s

/-- A HELD beat for the current fetch: the count rises and the assertion test is made (R98, R109). -/
def State.countHeld (serial : Nat) (s : State) : State :=
  if s.ilu.lock.state = .fetching ∧ s.ilu.lock.current = some serial then
    (s.setClaim { s.ilu.claim with heldCount := saturate s.ilu.claim.heldCount }).assertionTest
  else s

/-! ### Lock commands (R97, R100, R101) -/

/-- The target that a translation gives a lock: a Span address, or a doubleword index (R97). -/
def targetOf : Dest → LockTarget
  | .span a => .span a
  | .exchange o => .exchange (dwOfOffset o)
  | .node _ => .exchange 0

/-- The record after a successful FETCH LOCK (R97). -/
def HostLock.fetch (t : Translation) (page offset : Byte) (serial : Nat) : HostLock :=
  { state := .fetching, target := some (targetOf t.dest), confirm := t.confirm, page := page, offset := offset,
    current := some serial, data := Vector.replicate 8 0#8, status := .good, hold := none }

/-- FETCH LOCK (R97). -/
def State.fetchLock (s : State) : State :=
  if s.ilu.lock.state = .none then
    let page := s.addr.pageCtr
    let offset := s.addr.offCtr &&& 0xF8#8
    let r := s.translate page offset .lock false page s.addr.offCtr
    match r.2 with
    | none => r.1
    | some t =>
      let l := HostLock.fetch t page offset r.1.sched.serial
      let recorded := (r.1.setLock l).setClaim { r.1.ilu.claim with heldCount := 0, used := false }
      recorded.takeSerial.placeLock (l.request .lockFetch .lockRead (targetOf t.dest) [] [] r.1.sched.serial)
  else s.raise lockProtocol

/-- Stops the hold timer and makes a request the current one, in a new state (R100, R101). -/
def State.trackLock (st : LockState) (s : State) : State :=
  (s.setLock { s.ilu.lock with state := st, current := some s.sched.serial, hold := none }).takeSerial

/-- The enables byte as a list, byte 0 first (R100). -/
def enablesOf (e : Byte) : List Bool := (List.range 8).map fun i => e.getLsbD i

/-- STORE UNLOCK (R100). -/
def State.storeUnlock (enables : Byte) (data : List Byte) (s : State) : State :=
  match s.ilu.lock.state, s.ilu.lock.target with
  | .held, some target =>
    (s.trackLock .storing).placeLock
      (s.ilu.lock.request .lockStore .unlockWrite target (enablesOf enables) data s.sched.serial)
  | _, _ => s.raise lockProtocol

/-- The release that RELEASE LOCK and a hold expiry make: the current request, placed, and RELEASING (R101, R103). -/
def State.releaseHeld (target : LockTarget) (s : State) : State :=
  (s.trackLock .releasing).placeLock (s.ilu.lock.releaseRequest target s.sched.serial)

/-- RELEASE LOCK (R101). -/
def State.releaseLock (s : State) : State :=
  match s.ilu.lock.state, s.ilu.lock.target with
  | .held, some target => s.releaseHeld target
  | _, _ => s.raise lockProtocol

/-! ### Results of lock requests (R98, R102) -/

/-- The host lock holds its doubleword: data unless SPOILED, status, hold timer, and the CLAIM line released (R98). -/
def State.lockGranted (status : DataStatus) (data : List Byte) (s : State) : State :=
  let l := s.ilu.lock
  (s.setLock { l with state := .held, current := none, status := status,
                      data := if status = .spoiled then l.data else bytes8 data,
                      hold := some (s.startTimer s.lockHold) }).releaseClaim

/-- A completed LOCK_FETCH, if it is the current request (R98). -/
def State.lockFetchDone (serial : Nat) (status : DataStatus) (data : List Byte) (s : State) : State :=
  if s.ilu.lock.state = .fetching ∧ s.ilu.lock.current = some serial then s.lockGranted status data else s

/-- A failed LOCK_FETCH, if it is the current request (R98). -/
def State.lockFetchFailed (serial : Nat) (s : State) : State :=
  if s.ilu.lock.state = .fetching ∧ s.ilu.lock.current = some serial then s.lockNone.releaseClaim else s

/-- The end of a store or release, if it is the current request (R102). -/
def State.unlockEnded (serial : Nat) (s : State) : State :=
  if s.ilu.lock.current = some serial then s.lockNone else s

/-! ### The Lock Table (R99, R105 to R108) -/

/-- The entry for a doubleword. -/
def findLock (i : DwIndex) (t : List LockEntry) : Option LockEntry := t.find? fun e => e.index == i

/-- The entry is owned by HOST. -/
def LockEntry.hostOwned (e : LockEntry) : Bool := e.owner == .host

/-- The table without the entry of a doubleword. -/
def dropLock (i : DwIndex) (t : List LockEntry) : List LockEntry := t.filter fun e => e.index != i

/-- The table without HOST's entry for a doubleword (R102, R103). -/
def dropHostLock (i : DwIndex) (t : List LockEntry) : List LockEntry :=
  t.filter fun e => !(e.index == i && e.hostOwned)

/-- A lock attempt on a doubleword is refused: it has an entry, or the table is full (R99, R106). -/
def State.lockRefused (i : DwIndex) (s : State) : Bool :=
  (findLock i s.ilu.table).isSome || 4 ≤ s.ilu.table.length

/-- Adds an entry to the table. -/
def State.addLock (i : DwIndex) (o : LockOwner) (s : State) : State :=
  s.setTable (s.ilu.table ++ [{ index := i, owner := o }])

/-- REPORT_DROPPED with the fields of a report queue entry (R90). -/
def reportDropped (e : ReportEntry) : FaultRecord :=
  { code := .reportDropped, origin := .outbound, tag := none, kind := some .faultReport, address := some e.address,
    page := none, offset := none, peer := some e.dest }

/-- Creates a report queue entry if REPORTS is on; with 2 entries queued the new report is dropped (R90). -/
def State.fileReport (e : ReportEntry) (s : State) : State :=
  if s.reportsOn then
    if s.engine.reports.length < 2 then { s with engine := { s.engine with reports := s.engine.reports ++ [e] } }
    else s.raise (reportDropped e)
  else s

/-- LOCK_EXPIRED of a node entry (R108). -/
def lockExpired (n : Node) (t : Tag) (a : SpanAddr) : FaultRecord :=
  { code := .lockExpired, origin := .lock, tag := some t, kind := some .lockRead, address := some a, page := none,
    offset := none, peer := some n }

/-- LOCK_ORPHAN of an inbound UNLOCK-WRITE (R107). -/
def lockOrphan (n : Node) (t : Tag) (a : SpanAddr) : FaultRecord :=
  { code := .lockOrphan, origin := .lock, tag := some t, kind := some .unlockWrite, address := some a, page := none,
    offset := none, peer := some n }

/-- A node entry's hold timer has expired (R108). -/
def State.expireNodeLock (i : DwIndex) (s : State) : State :=
  match findLock i s.ilu.table with
  | some { index := _, owner := .node n t a _ } =>
    ((s.setTable (dropLock i s.ilu.table)).raise (lockExpired n t a)).fileReport
      { dest := n, faultCode := FaultCode.byte .lockExpired, address := a }
  | _ => s

/-- The host lock's hold timer has expired (R103). -/
def State.expireHostHold (s : State) : State :=
  let abandoned := s.raise (s.ilu.lock.fault .lockAbandoned)
  match s.ilu.lock.target with
  | some (.exchange i) => (abandoned.setTable (dropHostLock i s.ilu.table)).lockNone
  | some (.span a) => abandoned.releaseHeld (.span a)
  | none => abandoned.lockNone

/-! ### An Exchange lock fetch (R99) -/

/-- Forgets the kept fetch. -/
def State.dropKept (s : State) : State := { s with ilu := { s.ilu with kept := none } }

/-- The doubleword of a local request. -/
def Request.dw (r : Request) : DwIndex :=
  match r.dest with
  | .exchange o => dwOfOffset o
  | .span _ | .node _ => 0

/-- A refused attempt: the Interlock Unit keeps the request; the first refusal starts its retry window (R99). -/
def State.keepFetch (r : Request) (window : Option Timer) (s : State) : State :=
  { s with ilu := { s.ilu with kept := some { req := r, ready := false,
                                              window := window.getD (s.startTimer s.retryLimit) } } }

/-- One attempt of an Exchange lock fetch, granted or refused against the Lock Table (R99). -/
def State.attemptLock (r : Request) (window : Option Timer) (s : State) : State :=
  if s.lockRefused r.dw then s.keepFetch r window
  else
    (s.dropKept.addLock r.dw .host).lockFetchDone r.serial .good
      (s.xmm.mem.readBytes (offsetOfDw r.dw) 8)

/-- The retry window of a kept fetch has expired: RETRY_EXHAUSTED and NONE (R99). -/
def State.expireKept (s : State) : State :=
  ((s.raise (s.ilu.lock.fault .retryExhausted)).dropKept).lockNone

end Sys2Proof.Machine
end

