-- ==== Sys2Proof/Machine/Engine.lean ====
section
/-! DEFINITION. The outbound side of the Span Engine (chapter 5): the send point and its receipts, tags and the beat
scoreboard, the delivery of results, timeouts and rereads, the report queue, and ABORT's discards. -/

namespace Sys2Proof.Machine

/-- Replaces the send point's content. -/
def State.setSendPoint (sp : Option SendPoint) (s : State) : State :=
  { s with engine := { s.engine with sendPoint := sp } }

/-- Replaces the awaited receipt. -/
def State.setOutstanding (o : Option Offered) (s : State) : State :=
  { s with engine := { s.engine with outstanding := o } }

/-- An outstanding offer becomes orphaned (R76). -/
def State.orphanOffer (s : State) : State := s.setOutstanding (s.engine.outstanding.map fun _ => .orphaned)

/-! ### Faults of a request (R83) -/

/-- The destination as a Span address. -/
def Dest.address? : Dest → Option SpanAddr
  | .span a => some a
  | .exchange _ | .node _ => none

/-- The destination as a node. -/
def Dest.node? : Dest → Option Node
  | .node n => some n
  | .span _ | .exchange _ => none

/-- A fault of an outbound request, with the fields of R83. -/
def Request.fault (r : Request) (c : FaultCode) (tag : Option Tag) : FaultRecord :=
  if r.tagged then
    { code := c, origin := .outbound, tag := tag, kind := some r.kind, address := r.dest.address?,
      page := r.window.map Prod.fst, offset := r.window.map Prod.snd, peer := none }
  else
    { code := c, origin := .notice, tag := none, kind := some r.kind, address := none, page := none, offset := none,
      peer := r.dest.node? }

/-! ### Delivery (R89) -/

/-- Hands a completion to the block of the request's origin. -/
def State.deliverDone (r : Request) (status : DataStatus) (data : List Byte) (s : State) : State :=
  match r.origin with
  | .hostFetch | .lookahead => s.fetchResult r.serial (if status = .spoiled then none else some data)
  | .lockFetch => s.lockFetchDone r.serial status data
  | .lockStore | .lockRelease => s.unlockEnded r.serial
  | .hostWrite | .noticeSend | .recallSend => s

/-- Hands a failure to the block of the request's origin. -/
def State.deliverFailed (r : Request) (s : State) : State :=
  match r.origin with
  | .hostFetch | .lookahead => s.fetchResult r.serial none
  | .lockFetch => s.lockFetchFailed r.serial
  | .lockStore | .lockRelease => s.unlockEnded r.serial
  | .hostWrite | .noticeSend | .recallSend => s

/-! ### Moving the head to the send point (R79, R84, R111) -/

/-- The head is a Span LOCK-READ that CLAIM obedience holds back (R111). -/
def State.claimHoldsBack (r : Request) (s : State) : Bool :=
  r.origin == .lockFetch && s.claimObey && s.claimHolds

/-- The head of the Outbound Queue may move to the send point (R79). -/
def State.mayMove (e : QueueEntry) (s : State) : Bool :=
  !e.req.isLocal && s.engine.sendPoint.isNone && !s.engine.abandoned && !s.pins.spanReset &&
    (!e.req.tagged || s.lowestFree.isSome) && !e.waitTick && !s.claimHoldsBack e.req

/-- What a tag holds when it becomes BUSY (R84). -/
def BusyTag.bind (e : QueueEntry) : BusyTag :=
  { req := e.req, awaiting := false, expected := e.req.expectedBeats, received := [], worst := .good,
    data := List.replicate (4 * e.req.words) 0#8, rereadUsed := e.rereadMark, abortRelease := false,
    response := none, window := .fresh }

/-- The head leaves the queue. -/
def State.dequeue (s : State) : State := { s with engine := { s.engine with queue := s.engine.queue.tail } }

/-- Moves the head to the send point; a tagged head takes the lowest FREE tag (R79). -/
def State.moveHead (e : QueueEntry) (s : State) : State :=
  let tag := if e.req.tagged then s.lowestFree else none
  (s.dequeue.setTag? tag (.busy (.bind e))).setSendPoint
    (some { req := e.req, tag := tag, offer := .eligible, refused := false, window := e.window })

/-! ### Receipts of the send point's offer (R80 to R83) -/

/-- The send point's request fails: its fault, its tag FREE, the send point empty, the failure delivered. -/
def State.failSendPoint (sp : SendPoint) (c : FaultCode) (s : State) : State :=
  (((s.raise (sp.req.fault c sp.tag)).setSendPoint none).setTag? sp.tag .free).deliverFailed sp.req

/-- The retry counter, which stays at 65535 (R82). -/
def State.countRetry (s : State) : State :=
  { s with engine := { s.engine with retries := saturate s.engine.retries } }

/-- The tag of a request that was TAKEN awaits beats: its response timer starts, and a LOCK_FETCH keeps its retry window
(R80, R86, R88). -/
def BusyTag.await (b : BusyTag) (timer : Timer) (window : RetryWindow) : BusyTag :=
  { b with awaiting := true, response := some timer,
           window := if b.req.origin = .lockFetch then window else .fresh }

/-- RECOVERED, if the request was refused since it entered the send point (R81). -/
def State.raiseRecovered (sp : SendPoint) (s : State) : State :=
  if sp.refused then s.raise (sp.req.fault .recovered sp.tag) else s

/-- The request expects no beat: a posted write, a NOTICE or a RECALL (R80). -/
def Request.posted (r : Request) : Bool := r.expectedBeats == 0

/-- TAKEN (R80, R81). -/
def State.sendPointTaken (sp : SendPoint) (s : State) : State :=
  let freed := (s.raiseRecovered sp).setSendPoint none
  if sp.req.posted then (freed.setTag? sp.tag .free).deliverDone sp.req .good []
  else
    match sp.tag with
    | none => freed
    | some t =>
      match freed.tag t with
      | .busy b => freed.setTag t (.busy (b.await (freed.startTimer freed.responseLimit) sp.window))
      | .free | .quarantine _ => freed

/-- CHECK or FULL: counted, then RETRY_EXHAUSTED if the window's expiry is recorded, else the wait for a tick boundary
(R82). -/
def State.sendPointRefused (sp : SendPoint) (s : State) : State :=
  if sp.window.expired then s.countRetry.failSendPoint sp .retryExhausted
  else s.countRetry.setSendPoint (some { sp with offer := .waiting, refused := true })

/-- The receipt of an offer of the send point's request (R80 to R83). -/
def State.sendPointReceipt (sp : SendPoint) (r : Receipt) (s : State) : State :=
  match r with
  | .taken => (s.setOutstanding none).sendPointTaken sp
  | .check | .full => (s.setOutstanding none).sendPointRefused sp
  | .denied => (s.setOutstanding none).failSendPoint sp .denied
  | .void => (s.setOutstanding none).failSendPoint sp .voidTarget

/-! ### The abandoned offer (R93) -/

/-- Clears the abandoned offer. -/
def State.clearAbandoned (s : State) : State :=
  { s with engine := { s.engine with abandoned := false, abandonedTag := none } }

/-- The receipt of an abandoned offer: it clears the abandoned offer and settles a LOCK-READ's tag (R93). -/
def State.abandonedReceipt (r : Receipt) (s : State) : State :=
  let cleared := (s.setOutstanding none).clearAbandoned
  match s.engine.abandonedTag with
  | none => cleared
  | some t =>
    match r, s.tag t with
    | .taken, .busy b =>
      cleared.setTag t (.busy (b.await (cleared.startTimer cleared.responseLimit) .fresh))
    | .taken, .free | .taken, .quarantine _ => cleared
    | .check, _ | .full, _ | .denied, _ | .void, _ => cleared.setTag t .free

/-! ### The beat scoreboard (R85, R86, R88, R94) -/

/-- STRAY: origin OUTBOUND and the tag (R85). -/
def strayFault (t : Tag) : FaultRecord := { bareFault .stray .outbound with tag := some t }

/-- A stray beat is discarded, counted and logged; the tag does not change (R85, check 1). -/
def State.strayBeat (t : Tag) (s : State) : State :=
  ({ s with engine := { s.engine with strays := saturate s.engine.strays } } : State).raise (strayFault t)

/-- A transaction that fails at its tag: its fault, QUARANTINE and the failure delivered. -/
def State.failTag (t : Tag) (b : BusyTag) (c : FaultCode) (s : State) : State :=
  ((s.raise (b.req.fault c (some t))).quarantine t).deliverFailed b.req

/-- A sequence error (R85, checks 2 and 3); the failure of an abandoned LOCK-READ is delivered to no block (R94). -/
def State.sequenceError (t : Tag) (b : BusyTag) (s : State) : State := s.failTag t b .sequence

/-- The bytes a beat supplies, and their place in the assembled data (R63, R85). -/
def BusyTag.place (b : BusyTag) (p : Beat) : List Byte :=
  match b.req.kind with
  | .read =>
    if b.req.words = 1 then splice b.data 0 (wordBytes (if b.req.upperWord then p.word1 else p.word0))
    else splice b.data (8 * p.number) (wordBytes p.word0 ++ wordBytes p.word1)
  | .lockRead => splice b.data 0 (wordBytes p.word0 ++ wordBytes p.word1)
  | .write | .unlockWrite | .notice | .recall | .faultReport => b.data

/-- The tag with a beat recorded (R85, check 5). -/
def BusyTag.record (b : BusyTag) (p : Beat) : BusyTag :=
  { b with received := b.received ++ [p.number], worst := b.worst.worse p.status.data, data := b.place p }

/-- The received set holds every beat number below the expected count (R85). -/
def BusyTag.complete (b : BusyTag) : Bool := (List.range b.expected).all fun k => b.received.contains k

/-- The release made for a grant to an abandoned LOCK-READ (R94). -/
def Request.abortReleaseOf (r : Request) (serial : Nat) : Request :=
  { r with serial := serial, origin := .lockRelease, kind := .unlockWrite, enables := List.replicate 8 false,
           data := List.replicate 8 0#8, reread := false, abortRelease := true }

/-- A front placement without marks. -/
def QueueEntry.atFront (r : Request) : QueueEntry := { QueueEntry.tail r with front := true }

/-- The fault of a completion, by its worst status (R86). -/
def State.raiseStatus (t : Tag) (b : BusyTag) (s : State) : State :=
  match b.worst with
  | .good => s
  | .mended => s.raise (b.req.fault .dataMended (some t))
  | .spoiled => s.raise (b.req.fault .dataSpoiled (some t))

/-- A transaction completes: the tag FREE and the result delivered, or the abort release made (R86, R94). -/
def State.completeTag (t : Tag) (b : BusyTag) (s : State) : State :=
  if b.abortRelease then
    ((s.setTag t .free).takeSerial).enqueueFront (.atFront (b.req.abortReleaseOf s.sched.serial))
  else ((s.raiseStatus t b).setTag t .free).deliverDone b.req b.worst b.data

/-- A HELD beat on a LOCK-READ (R88): the tag FREE; unless abandoned, counted by the Interlock Unit, then re-offered from
the front of the queue, or failed if the expiry of its retry window is recorded. -/
def State.heldBeat (t : Tag) (b : BusyTag) (s : State) : State :=
  if b.abortRelease then s.setTag t .free
  else if b.window.expired then
    (((s.setTag t .free).countHeld b.req.serial).raise (b.req.fault .retryExhausted (some t))).deliverFailed b.req
  else
    ((s.setTag t .free).countHeld b.req.serial).enqueueFront
      { QueueEntry.atFront b.req with window := b.window, waitTick := true }

/-- A recorded beat completes its transaction, or stays at the tag with those before it. -/
def State.recordBeat (t : Tag) (b : BusyTag) (s : State) : State :=
  if b.complete then s.completeTag t b else s.setTag t (.busy b)

/-- The beat scoreboard: the checks of R85 in order. -/
def State.scoreBeat (p : Beat) (s : State) : State :=
  match s.tag p.tag with
  | .free | .quarantine _ => s.strayBeat p.tag
  | .busy b =>
    if !b.awaiting then s.strayBeat p.tag
    else if b.expected ≤ p.number || b.received.contains p.number then s.sequenceError p.tag b
    else if p.status = .held then
      if b.req.kind = .lockRead then s.heldBeat p.tag b else s.sequenceError p.tag b
    else s.recordBeat p.tag (b.record p)

/-! ### Expiries of the outbound side -/

/-- A READ that may be re-sent after its timeout (R86). -/
def BusyTag.mayReread (b : BusyTag) : Bool := b.req.kind == .read && b.req.reread && !b.rereadUsed

/-- The response timer of a tag has expired: a reread, an abort release, or RESPONSE_TIMEOUT (R86). -/
def State.expireResponse (t : Tag) (s : State) : State :=
  match s.tag t with
  | .busy b =>
    if b.mayReread then
      (s.quarantine t).enqueueFront { QueueEntry.atFront b.req with rereadMark := true }
    else if b.abortRelease then s.quarantine t
    else s.failTag t b .responseTimeout
  | .free | .quarantine _ => s

/-- The retry window of the send point's request has expired (R82). -/
def State.expireSendPoint (s : State) : State :=
  match s.engine.sendPoint with
  | none => s
  | some sp =>
    if sp.offer = .outstanding then s.setSendPoint (some { sp with window := sp.window.expire })
    else s.failSendPoint sp .retryExhausted

/-- A quarantine timer has expired (R87). -/
def State.expireQuarantine (t : Tag) (s : State) : State := s.setTag t .free

/-- The queue entry is a LOCK_FETCH whose retry window has come due. -/
def QueueEntry.windowDue (tick : Nat) (e : QueueEntry) : Bool := timerDue e.window.timer tick

/-- The tag awaits the beat of a LOCK_FETCH whose retry window has come due. -/
def TagState.windowDue (tick : Nat) : TagState → Bool
  | .busy b => b.awaiting && timerDue b.window.timer tick
  | .free | .quarantine _ => false

/-- The tag that awaits the beat of a LOCK_FETCH whose window has come due. -/
def State.lockWindowTag (s : State) : Option Tag :=
  (List.finRange 4).find? fun t => (s.tag t).windowDue s.sched.tick

/-- The queue entry whose retry window has come due. -/
def State.lockWindowEntry (s : State) : Option QueueEntry :=
  s.engine.queue.find? fun e => e.windowDue s.sched.tick

/-- The first entry that a test picks leaves the queue. -/
def State.removeEntry (p : QueueEntry → Bool) (s : State) : State :=
  { s with engine := { s.engine with queue := s.engine.queue.eraseP p } }

/-- The retry window of a Span LOCK_FETCH away from the send point has expired (R88): recorded while a beat is awaited;
in the queue the fetch fails, and a staged request enters in its place (R35; assumption log 16, DEDUCED, unsafe). -/
def State.expireLockFetch (s : State) : State :=
  match s.lockWindowTag with
  | some t =>
    match s.tag t with
    | .busy b => s.setTag t (.busy { b with window := b.window.expire })
    | .free | .quarantine _ => s
  | none =>
    match s.lockWindowEntry with
    | none => s
    | some e =>
      (((s.removeEntry (QueueEntry.windowDue s.sched.tick)).raise (e.req.fault .retryExhausted none)).deliverFailed
        e.req).entryFreed

/-! ### The report queue (R91) -/

/-- The head of the report queue leaves it, and the next entry becomes the head. -/
def State.dropReport (s : State) : State :=
  { s with engine := { s.engine with reports := s.engine.reports.tail, reportHead := .fresh } }

/-- Replaces the offer state and window of the report queue's head. -/
def State.setReportHead (h : HeadOffer) (s : State) : State :=
  { s with engine := { s.engine with reportHead := h } }

/-- The head of the report queue is dropped with REPORT_DROPPED (R91). -/
def State.failReport (e : ReportEntry) (s : State) : State := s.dropReport.raise (reportDropped e)

/-- The receipt of an offer of the report queue's head (R91). -/
def State.reportReceipt (e : ReportEntry) (r : Receipt) (s : State) : State :=
  let answered := s.setOutstanding none
  match r with
  | .taken => answered.dropReport
  | .check | .full =>
    if s.engine.reportHead.window.expired then answered.failReport e
    else answered.setReportHead { s.engine.reportHead with offer := .waiting }
  | .denied | .void => answered.failReport e

/-- The retry window of the report queue's head has expired (R91, as R82). -/
def State.expireReport (s : State) : State :=
  match s.engine.reports with
  | [] => s
  | e :: _ =>
    if s.engine.reportHead.offer = .outstanding then
      s.setReportHead { s.engine.reportHead with window := s.engine.reportHead.window.expire }
    else s.failReport e

/-! ### ABORT (R92 to R94, R104) -/

/-- A front placement with the abort-release mark, which survives ABORT (R92). -/
def QueueEntry.survivesAbort (e : QueueEntry) : Bool := e.front && e.req.abortRelease

/-- The send point's request, if ABORT discards it: it does not carry the abort-release mark (R92). -/
def State.abortableSendPoint (s : State) : Option SendPoint :=
  s.engine.sendPoint.filter fun sp => !sp.req.abortRelease

/-- Whether steps 1 to 4 of R92 discard anything. -/
def State.abortDiscards (s : State) : Bool :=
  s.streams.pack.isSome || s.streams.staging.isSome || s.streams.deferred.isSome || s.ilu.waiting.isSome ||
    s.engine.queue.any (fun e => !e.survivesAbort) || s.abortableSendPoint.isSome

/-- An offer of the send point's own request, or an abandoned one, awaits its receipt. -/
def State.sendPointOffered (s : State) : Bool := s.engine.outstanding == some .sendPoint

/-- The tag belongs to a send point request with the abort-release mark, which R93 leaves alone. -/
def State.spared (s : State) (t : Tag) : Bool :=
  s.engine.sendPoint.any fun sp => sp.req.abortRelease && sp.tag == some t

/-- The treatment of one tag at ABORT (R93). -/
def State.abortTag (s : State) (t : Tag) : TagState :=
  match s.tag t with
  | .free => .free
  | .quarantine q => .quarantine q
  | .busy b =>
    if s.spared t then .busy b
    else if b.awaiting then
      if b.req.kind = .lockRead then .busy { b with abortRelease := true, window := .fresh }
      else .quarantine s.startQuarantine
    else if s.sendPointOffered then
      if b.req.kind = .lockRead then .busy { b with abortRelease := true, window := .fresh }
      else .quarantine s.startQuarantine
    else .free

/-- The tag of a LOCK-READ whose offer ABORT abandons (R93). -/
def State.abandonedLockTag (s : State) : Option Tag :=
  match s.abortableSendPoint with
  | none => s.engine.abandonedTag
  | some sp => if sp.req.kind = .lockRead then sp.tag else none

/-- The abandoned offer after ABORT: set if the discarded send point request has an offer outstanding (R93). -/
def State.abandonsOffer (s : State) : Bool :=
  s.engine.abandoned || (s.abortableSendPoint.isSome && s.sendPointOffered)

/-- The request the Interlock Unit tracks stands at a tag awaiting its confirmation beat (R104). -/
def State.currentAwaits (s : State) : Bool :=
  s.engine.tags.toList.any fun st =>
    match st with
    | .busy b => b.awaiting && s.ilu.lock.current == some b.req.serial
    | .free | .quarantine _ => false

/-- Whether abandoning the host lock forms a release (R104): in HELD, and in STORING or RELEASING unless the target has
taken the unlock. -/
def State.abandonReleases (s : State) : Bool :=
  match s.ilu.lock.state with
  | .none | .fetching => false
  | .held => true
  | .storing | .releasing => !s.currentAwaits

/-- Steps 1 to 4 of R92 and the tag treatment of R93, from the state `s` before them. A still-queued Exchange release of an
earlier ABORT is discarded too, and HOST's Lock Table entry stays (assumption log 22, DESIGN CHOICE, unsafe). -/
def State.abortDiscard (s : State) : State :=
  { s with
    streams := { pack := none, staging := none, deferred := none, current := .empty, ahead := .empty }
    ilu := { s.ilu with waiting := none }
    engine := { s.engine with
      queue := s.engine.queue.filter QueueEntry.survivesAbort
      sendPoint := s.engine.sendPoint.filter fun sp => sp.req.abortRelease
      abandoned := s.abandonsOffer
      abandonedTag := if s.abandonsOffer then s.abandonedLockTag else none
      tags := Vector.ofFn fun t => s.abortTag t } }

/-- Forms the release of an abandoned lock at the tail of the queue, if R104 requires one. -/
def State.abandonRelease (releases : Bool) (s : State) : State :=
  match releases, s.ilu.lock.target with
  | true, some target => s.takeSerial.enqueue (s.ilu.lock.releaseRequest target s.sched.serial)
  | true, none | false, _ => s

/-- ABORT's own effect after the prelude (R92 to R94, R104). -/
def State.abort (s : State) : State :=
  let reported := if s.abortDiscards then s.abortDiscard.raise (bareFault .aborted .outbound) else s.abortDiscard
  let released := ((reported.abandonRelease s.abandonReleases).dropKept.lockNone).releaseClaim
  { released with host := { released.host with drainPending := false, decoder := .idle, collected := none } }

end Sys2Proof.Machine
end

