-- ==== Sys2Proof/Machine/Exchange.lean ====
section
/-! DEFINITION. Exchange Memory's gate, Inbound Queue, response list and arbiter (chapter 7, R72, R73, R78). -/

namespace Sys2Proof.Machine

/-! ### The gate (R117 to R120) -/

/-- The entry covers a doubleword: it agrees with BASE wherever MASK holds a 1 (R117). -/
def GateEntry.covers (g : GateEntry) (d : DwIndex) : Bool := (d ^^^ g.base) &&& g.mask == 0

/-- The entry decides a request: the four conditions of R120. -/
def GateEntry.decides (g : GateEntry) (k : MemoryKind) (source : Node) (d : DwIndex) : Bool :=
  g.enabled && g.covers d && g.kinds.getLsbD k.gateBit && g.nodes.getLsbD source.toNat

/-- The gate decision: the first entry that decides, else GATE DEFAULT; true is PERMIT (R120). -/
def State.gateDecision (k : MemoryKind) (source : Node) (d : DwIndex) (s : State) : Bool :=
  match s.gate.toList.find? fun g => g.decides k source d with
  | some g => !g.deny
  | none => s.gatePermits

/-- GATE_DENIED of a request (R120). -/
def gateDenied (p : MemoryPacket) : FaultRecord :=
  { code := .gateDenied, origin := .inbound, tag := some p.tag, kind := some p.kind.kind, address := some p.address,
    page := none, offset := none, peer := some p.source }

/-- The entry of GATE WRITE's parameters 2 to 7 (R118). -/
def GateEntry.ofBytes (control kinds base mask low high : Byte) : GateEntry :=
  { enabled := control.getLsbD 7, deny := control.getLsbD 6, kinds := kinds.extractLsb' 0 4, base := base,
    mask := mask, nodes := high ++ low }

/-- The six bytes of GATE READ (R119). -/
def GateEntry.bytes (g : GateEntry) : List Byte :=
  [bit 7 g.enabled ||| bit 6 g.deny, g.kinds.setWidth 8, g.base, g.mask, lowByte g.nodes, highByte g.nodes]

/-- The control and KINDS bytes hold zero where R118 requires it. -/
def gateBytesInRange (control kinds : Byte) : Bool := control.extractLsb' 0 6 == 0#6 && kinds.extractLsb' 4 4 == 0#4

/-- The Gate Table entry at an index 0 to 7. -/
def State.gateEntry (s : State) (i : Fin 8) : GateEntry := s.gate.get i

/-- Replaces all six fields of an entry (R118). -/
def State.setGateEntry (i : Fin 8) (g : GateEntry) (s : State) : State :=
  { s with gate := s.gate.set i.val g }

/-- The index that a parameter byte names, if it is at most 7. -/
def gateIndex (b : Byte) : Option (Fin 8) := if h : b.toNat < 8 then some ⟨b.toNat, h⟩ else none

/-! ### The Inbound Queue (R121) -/

/-- Replaces the Inbound Queue and response list. -/
def State.setInbound (i : Inbound) (s : State) : State := { s with inbound := i }

/-- Replaces the contents of Exchange Memory. -/
def State.setMem (m : Memory) (s : State) : State := { s with xmm := { s.xmm with mem := m } }

/-- The Inbound Queue has room (R68, decision 4). -/
def State.inboundRoom (s : State) : Bool := s.inbound.queue.length < 4

/-- The entry of an accepted request, WAITING, with its Exchange offset fixed (R66, R121). -/
def InboundEntry.waiting (p : MemoryPacket) (serial : Nat) : InboundEntry :=
  { serial := serial, kind := p.kind, source := p.source, tag := p.tag, address := p.address,
    offset := exchangeOffset p.address, words := p.words, confirm := p.confirm, enables := p.enables, data := p.data,
    answering := false }

/-- The request becomes the newest entry (R68, decision 5). -/
def State.acceptInbound (p : MemoryPacket) (s : State) : State :=
  (s.setInbound { s.inbound with queue := s.inbound.queue ++ [.waiting p s.sched.serial] }).takeSerial

/-- A completed entry leaves the queue at once, wherever it stands (R121). -/
def State.completeEntry (serial : Nat) (s : State) : State :=
  s.setInbound { s.inbound with queue := s.inbound.queue.filter fun e => e.serial != serial }

/-- An entry after its grant. -/
def InboundEntry.answer (e : InboundEntry) : InboundEntry := { e with answering := true }

/-- The owed beats of an entry (R72). -/
def InboundEntry.owed (e : InboundEntry) (bs : List Beat) : List OwedBeat :=
  bs.map fun b => { beat := b, entry := e.serial, kind := e.kind, address := e.address }

/-- The end of a grant: with beats the entry becomes ANSWERING and they join the response list, without it completes
(R121, R122, R123). -/
def State.answer (e : InboundEntry) (bs : List Beat) (s : State) : State :=
  if bs.isEmpty then s.completeEntry e.serial
  else
    s.setInbound
      { s.inbound with
        queue := s.inbound.queue.map fun f => if f.serial = e.serial then f.answer else f
        beats := s.inbound.beats ++ e.owed bs }

/-! ### Execution of an inbound entry (R106, R107, R122, R123) -/

/-- A beat for an entry's requester (R62). -/
def InboundEntry.beat (e : InboundEntry) (number : Nat) (status : BeatStatus) (w0 w1 : Word) : Beat :=
  { requester := e.source, tag := e.tag, number := number, status := status, word0 := w0, word1 := w1 }

/-- The beats of a READ (R63, R122). -/
def InboundEntry.readBeats (e : InboundEntry) (bytes : List Byte) : List Beat :=
  if e.words = 1 then
    [if e.address.getLsbD 2 then e.beat 0 .good 0 (wordAt bytes 0) else e.beat 0 .good (wordAt bytes 0) 0]
  else (List.range (e.words / 2)).map fun k => e.beat k .good (wordAt bytes (2 * k)) (wordAt bytes (2 * k + 1))

/-- The confirmation beat, when CONFIRM is set (R63, R123). -/
def InboundEntry.confirmation (e : InboundEntry) : List Beat := if e.confirm then [e.beat 0 .good 0 0] else []

/-- Exchange Memory after an entry's enabled bytes are written. -/
def State.writeEntry (e : InboundEntry) (s : State) : State :=
  s.setMem (s.xmm.mem.writeBytes e.offset e.enables e.data)

/-- An inbound READ is granted (R122). -/
def State.inboundRead (e : InboundEntry) (s : State) : State :=
  s.answer e (e.readBeats (s.xmm.mem.readBytes e.offset (4 * e.words)))

/-- An inbound WRITE is granted (R123). -/
def State.inboundWrite (e : InboundEntry) (s : State) : State := (s.writeEntry e).answer e e.confirmation

/-- The doubleword of an entry. -/
def InboundEntry.dw (e : InboundEntry) : DwIndex := dwOfOffset e.offset

/-- The GOOD beat of a granted LOCK-READ (R106). -/
def InboundEntry.grantBeat (e : InboundEntry) (m : Memory) : Beat :=
  e.beat 0 .good (wordAt (m.readBytes e.offset 8) 0) (wordAt (m.readBytes e.offset 8) 1)

/-- An inbound LOCK-READ is granted by the arbiter: an entry and GOOD, or HELD (R106). -/
def State.inboundLockRead (e : InboundEntry) (s : State) : State :=
  if s.lockRefused e.dw then s.answer e [e.beat 0 .held 0 0]
  else
    (s.addLock e.dw (.node e.source e.tag e.address (s.startTimer s.lockHold))).answer e [e.grantBeat s.xmm.mem]

/-- The table entry is owned by a node, whatever its tag (R107). -/
def LockEntry.ownedBy (l : LockEntry) (n : Node) : Bool :=
  match l.owner with
  | .host => false
  | .node m _ _ _ => m == n

/-- The Lock Table's part of an inbound UNLOCK-WRITE: the owner's unlock or an orphan unlock (R107). -/
def State.unlockEntry (e : InboundEntry) (s : State) : State :=
  if (findLock e.dw s.ilu.table).any fun l => l.ownedBy e.source then s.setTable (dropLock e.dw s.ilu.table)
  else
    (s.raise (lockOrphan e.source e.tag e.address)).fileReport
      { dest := e.source, faultCode := FaultCode.byte .lockOrphan, address := e.address }

/-- An inbound UNLOCK-WRITE is granted (R107, R123). -/
def State.inboundUnlockWrite (e : InboundEntry) (s : State) : State :=
  ((s.writeEntry e).unlockEntry e).answer e e.confirmation

/-- The execution of a granted entry, by its kind. -/
def State.executeInbound (e : InboundEntry) (s : State) : State :=
  match e.kind with
  | .read => s.inboundRead e
  | .write => s.inboundWrite e
  | .lockRead => s.inboundLockRead e
  | .unlockWrite => s.inboundUnlockWrite e

/-! ### The response list (R72, R73) -/

/-- RESPONSE_UNDELIVERED of a beat (R73). -/
def undelivered (b : OwedBeat) : FaultRecord :=
  { code := .responseUndelivered, origin := .inbound, tag := some b.beat.tag, kind := some b.kind.kind,
    address := some b.address, page := none, offset := none, peer := some b.beat.requester }

/-- The head beat leaves the list; the last beat of an entry completes it (R72, R121). -/
def State.beatLeaves (b : OwedBeat) (s : State) : State :=
  let gone := s.setInbound { s.inbound with beats := s.inbound.beats.tail, head := .fresh }
  if gone.inbound.beats.any fun o => o.entry == b.entry then gone else gone.completeEntry b.entry

/-- The head beat is dropped (R73). -/
def State.dropBeat (b : OwedBeat) (s : State) : State := (s.beatLeaves b).raise (undelivered b)

/-- Replaces the offer state and window of the head beat. -/
def State.setBeatHead (h : HeadOffer) (s : State) : State := s.setInbound { s.inbound with head := h }

/-- The receipt of an offer of the head beat (R72, R73). -/
def State.beatReceipt (b : OwedBeat) (r : Receipt) (s : State) : State :=
  let answered := s.setOutstanding none
  match r with
  | .taken => answered.beatLeaves b
  | .check | .full => answered.setBeatHead { s.inbound.head with offer := .waiting }
  | .denied | .void => answered.dropBeat b

/-- The retry window of the head beat has expired: it is dropped, and an outstanding offer of it is orphaned (R73). -/
def State.expireBeat (s : State) : State :=
  match s.inbound.beats with
  | [] => s
  | b :: _ => (if s.engine.outstanding = some .beat then s.orphanOffer else s).dropBeat b

/-! ### Local execution (R78, R102) -/

/-- The Exchange offset of a local request. -/
def Request.offset (r : Request) : ExOffset :=
  match r.dest with
  | .exchange o => o
  | .span _ | .node _ => 0

/-- Exchange Memory after a request's enabled bytes are written. -/
def State.writeLocal (r : Request) (s : State) : State :=
  s.setMem (s.xmm.mem.writeBytes r.offset r.enables r.data)

/-- A local head executes as one access (R78). A local request is of a memory kind; the node kinds have no offset. -/
def State.executeLocal (r : Request) (s : State) : State :=
  match r.kind with
  | .read => s.deliverDone r .good (s.xmm.mem.readBytes r.offset (4 * r.words))
  | .write => (s.writeLocal r).deliverDone r .good []
  | .lockRead => s.attemptLock r none
  | .unlockWrite =>
    ((s.writeLocal r).setTable (dropHostLock r.dw s.ilu.table)).deliverDone r .good []
  | .notice | .recall | .faultReport => s

/-! ### The arbiter (R114, R115) -/

/-- What the arbiter can grant. -/
inductive Grant
  | inbound (e : InboundEntry)
  | kept (k : KeptFetch)
  | head (r : Request)
deriving DecidableEq, Repr

/-- The inbound candidate: the oldest WAITING entry (R114). -/
def State.inboundCandidate (s : State) : Option InboundEntry := s.inbound.queue.find? fun e => !e.answering

/-- The local head of the Outbound Queue. -/
def State.localHead (s : State) : Option Request :=
  (s.engine.queue.head?.map QueueEntry.req).filter Request.isLocal

/-- The local candidate: a kept fetch that is ready, else a local head (R114). -/
def State.localCandidate (s : State) : Option Grant :=
  match s.ilu.kept.filter KeptFetch.ready with
  | some k => some (.kept k)
  | none => s.localHead.map .head

/-- One decision of the arbiter, with the count afterwards (R115). -/
def State.arbitrate (s : State) : Option (Grant × Nat) :=
  match s.inboundCandidate, s.localCandidate with
  | some e, none => some (.inbound e, 0)
  | some e, some l => if s.xmm.run < 4 then some (.inbound e, s.xmm.run + 1) else some (l, 0)
  | none, some l => some (l, 0)
  | none, none => none

/-- Executes a granted access (R113). -/
def State.executeGrant (g : Grant) (s : State) : State :=
  match g with
  | .inbound e => s.executeInbound e
  | .kept k => s.attemptLock k.req (some k.window)
  | .head r => s.dequeue.executeLocal r

/-- Makes a grant: the count, the pass's own count of grants (R116), and the access. -/
def State.grant (g : Grant) (run : Nat) (s : State) : State :=
  ({ s with xmm := { s.xmm with run := run }
            sched := { s.sched with grants := s.sched.grants + 1 } } : State).executeGrant g

end Sys2Proof.Machine
end

