-- ==== Sys2Proof/Machine/Packets.lean ====
section
/-! DEFINITION. The receive decisions for packets from other nodes (R67 to R71), the Notice Queue's source and room
checks (R127 to R129), and the packets the bridge places at a send turn (R60, R74). -/

namespace Sys2Proof

/-- The packet check of R61: the check value agrees and the packet is well formed. -/
def MemoryPacket.passes (p : MemoryPacket) : Bool := p.valueOk && p.wellFormed

/-- The packet check of R61. -/
def NoticePacket.passes (p : NoticePacket) : Bool := p.valueOk && p.wellFormed

/-- The packet check of R61; a FAULT-REPORT has no further condition. -/
def FaultReportPacket.passes (p : FaultReportPacket) : Bool := p.valueOk

/-- The packet check of R61. -/
def BeatPacket.passes (p : BeatPacket) : Bool := p.valueOk && p.wellFormed

end Sys2Proof

namespace Sys2Proof.Machine

/-- Answers the packet being handled; `none` is silence, which its sender sees as VOID (R59, R67). -/
def State.reply (r : Option Receipt) (s : State) : State := { s with out := { s.out with receipt := r } }

/-- The answer to a packet during reset and initialization, by whether the bridge selects itself for it, whatever the level
of SPAN-RESET (R71; assumption log 8, DEDUCED, unsafe). -/
def State.replyInReset (selected passes : Bool) (s : State) : State :=
  s.reply (if selected then some (if passes then .full else .check) else none)

/-- The aperture by which the bridge selects itself: the one before the reset in progress, else the one in force
(R67, R71). -/
def State.selectionAperture (s : State) : Option ApertureNumber :=
  if s.running then s.aperture else s.power.priorAperture

/-! ### Memory requests (R68) -/

/-- The doubleword index the gate decides on: that of the first byte (R120). -/
def requestDw (p : MemoryPacket) : DwIndex := dwOfOffset (exchangeOffset p.address)

/-- The receive decisions for a selected memory request (R68). -/
def State.decideMemory (p : MemoryPacket) (s : State) : State :=
  if !p.passes then s.reply (some .check)
  else if s.power.asleep then s.reply (some .full)
  else if !s.gateDecision p.kind p.source (requestDw p) then (s.raise (gateDenied p)).reply (some .denied)
  else if s.inboundRoom then (s.acceptInbound p).reply (some .taken)
  else s.reply (some .full)

/-- A memory request from another node (R67, R68, R71). -/
def State.receiveMemory (p : MemoryPacket) (s : State) : State :=
  let selected := inAperture s.selectionAperture p.address
  if !s.running then s.replyInReset selected p.passes
  else if s.pins.spanReset || !selected then s.reply none
  else s.decideMemory p

/-! ### Notices, recalls and fault reports (R125 to R129) -/

/-- A record of kind NOTICE. -/
def NoticeRecord.isNotice (r : NoticeRecord) : Bool :=
  match r.body with
  | .notice _ => true
  | .faultReport _ _ => false

/-- Queues a record, which takes a sequence number (R126). -/
def State.queueRecord (body : NoticeBody) (level : Level) (source : Node) (s : State) : State :=
  { s with notices := { s.notices with
      queue := s.notices.queue ++
        [{ body := body, level := level, source := source, sequence := s.notices.arrival }]
      arrival := s.notices.arrival + 1 } }

/-- The queue has no room for a NOTICE: 14 records of that kind, or 16 of any (R127). -/
def State.noticeFull (s : State) : Bool :=
  14 ≤ s.notices.queue.countP NoticeRecord.isNotice || 16 ≤ s.notices.queue.length

/-- The level of a well-formed NOTICE or RECALL. -/
def packetLevel (p : NoticePacket) : Level := BitVec.ofNat 2 p.level

/-- The checks of an inbound NOTICE after its packet check (R127). -/
def State.decideNotice (p : NoticePacket) (s : State) : State :=
  if !p.passes then s.reply (some .check)
  else if !s.noticeSource p.source then s.reply (some .denied)
  else if s.noticeFull then s.reply (some .full)
  else (s.queueRecord (.notice p.code) (packetLevel p) p.source).reply (some .taken)

/-- The check of an inbound FAULT-REPORT after its packet check (R128). -/
def State.decideFaultReport (p : FaultReportPacket) (s : State) : State :=
  if !p.passes then s.reply (some .check)
  else if 16 ≤ s.notices.queue.length then s.reply (some .full)
  else (s.queueRecord (.faultReport p.faultCode p.address) 3 p.source).reply (some .taken)

/-- The record is a NOTICE with the source, level and code of a RECALL (R129). -/
def NoticeRecord.recalledBy (r : NoticeRecord) (p : NoticePacket) : Bool :=
  r.body == .notice p.code && r.level == packetLevel p && r.source == p.source

/-- What a RECALL withdraws: the oldest queued match, else the taken match, else nothing (R129). -/
def Notices.recall (n : Notices) (p : NoticePacket) : Notices :=
  if n.queue.any fun r => r.recalledBy p then { n with queue := n.queue.eraseP fun r => r.recalledBy p }
  else if n.taken.any fun r => r.recalledBy p then { n with withdrawn := true }
  else n

/-- The checks of an inbound RECALL after its packet check (R129). -/
def State.decideRecall (p : NoticePacket) (s : State) : State :=
  if !p.passes then s.reply (some .check)
  else if !s.noticeSource p.source then s.reply (some .denied)
  else ({ s with notices := s.notices.recall p } : State).reply (some .taken)

/-- A NOTICE from another node (R67, R69, R71). -/
def State.receiveNotice (p : NoticePacket) (s : State) : State :=
  if !s.running then s.replyInReset (p.destination == s.power.node) p.passes
  else if s.pins.spanReset || p.destination != s.power.node then s.reply none
  else s.decideNotice p

/-- A RECALL from another node (R67, R69, R71). -/
def State.receiveRecall (p : NoticePacket) (s : State) : State :=
  if !s.running then s.replyInReset (p.destination == s.power.node) p.passes
  else if s.pins.spanReset || p.destination != s.power.node then s.reply none
  else s.decideRecall p

/-- A FAULT-REPORT from another node (R67, R69, R71). -/
def State.receiveFaultReport (p : FaultReportPacket) (s : State) : State :=
  if !s.running then s.replyInReset (p.destination == s.power.node) p.passes
  else if s.pins.spanReset || p.destination != s.power.node then s.reply none
  else s.decideFaultReport p

/-! ### Beats (R70) -/

/-- The tag of a beat takes its place in the scoreboard; the receipt is TAKEN, always (R70). -/
def State.decideBeat (p : BeatPacket) (s : State) : State :=
  if !p.passes then s.reply (some .check) else (s.scoreBeat p.beat).reply (some .taken)

/-- A beat from another node (R67, R70, R71). -/
def State.receiveBeat (p : BeatPacket) (s : State) : State :=
  if !s.running then s.replyInReset (p.beat.requester == s.power.node) p.passes
  else if s.pins.spanReset || p.beat.requester != s.power.node then s.reply none
  else s.decideBeat p

/-! ### A send turn (R58, R60, R74) -/

/-- The CONFIRM flag of a request's packet: only the writing kinds carry one (R60). -/
def Request.confirmFlag (r : Request) : Bool :=
  match r.kind with
  | .write | .unlockWrite => r.confirm
  | .read | .lockRead | .notice | .recall | .faultReport => false

/-- The packet of a request at the send point, from its record (R60). -/
def Request.packet (r : Request) (node : Node) (tag : Option Tag) : SpanPacket :=
  match r.dest with
  | .span a => .memory r.kind node tag a r.words r.confirmFlag r.enables r.data
  | .exchange o => .memory r.kind node tag (o.setWidth 36) r.words r.confirmFlag r.enables r.data
  | .node d => .note r.kind node d (r.note.elim 0 Prod.fst) (r.note.elim 0 Prod.snd)

/-- The FAULT-REPORT packet of a report queue entry (R60, R90). -/
def ReportEntry.packet (e : ReportEntry) (node : Node) : SpanPacket :=
  .faultReport node e.dest e.faultCode e.address

/-- Records the packet placed. -/
def State.emit (p : SpanPacket) (s : State) : State := { s with out := { s.out with packet := some p } }

/-- The bridge may take a send turn: no offer outstanding, SPAN-RESET not asserted, not in reset (R58). -/
def State.maySend (s : State) : Bool :=
  s.running && s.engine.outstanding.isNone && !s.pins.spanReset

/-- The eligible head beat (R74). -/
def State.eligibleBeat (s : State) : Option OwedBeat :=
  if s.inbound.head.offer = .eligible then s.inbound.beats.head? else none

/-- The eligible fault report (R74). -/
def State.eligibleReport (s : State) : Option ReportEntry :=
  if s.engine.reportHead.offer = .eligible then s.engine.reports.head? else none

/-- The eligible request at the send point (R74); none while an abandoned offer awaits its receipt (R93). -/
def State.eligibleRequest (s : State) : Option SendPoint :=
  if s.engine.abandoned then none else s.engine.sendPoint.filter fun p => p.offer == .eligible

/-- Offers the head beat; its retry window starts at the first offer (R73). -/
def State.offerBeat (b : OwedBeat) (s : State) : State :=
  ((s.setBeatHead { offer := .outstanding, window := s.offerWindow s.inbound.head.window }).setOutstanding
    (some .beat)).emit (.beat b.beat)

/-- Offers the head fault report; its retry window starts at the first offer (R91). -/
def State.offerReport (e : ReportEntry) (s : State) : State :=
  ((s.setReportHead { offer := .outstanding, window := s.offerWindow s.engine.reportHead.window }).setOutstanding
    (some .report)).emit (e.packet s.power.node)

/-- Offers the send point's request; its retry window starts at the first offer (R82). -/
def State.offerRequest (p : SendPoint) (s : State) : State :=
  ((s.setSendPoint (some { p with offer := .outstanding, window := s.offerWindow p.window })).setOutstanding
    (some .sendPoint)).emit (p.req.packet s.power.node p.tag)

/-- A send turn: the first eligible packet in the order of R74, and only that packet. -/
def State.sendTurn (s : State) : State :=
  if s.maySend then
    match s.eligibleBeat, s.eligibleReport, s.eligibleRequest with
    | some b, _, _ => s.offerBeat b
    | none, some e, _ => s.offerReport e
    | none, none, some p => s.offerRequest p
    | none, none, none => s
  else s

end Sys2Proof.Machine
end

