-- ==== Sys2Proof/Machine/Phases.lean ====
section
/-! DEFINITION. The processing step (R164): its phases, the timer phase, the end-of-step pass (R77, R116), and how a
command joins the step in progress or ends it and begins another (assumption log 4). -/

namespace Sys2Proof.Machine

/-- Moves the record of the step to a phase. -/
def State.setPhase (p : Phase) (s : State) : State := { s with sched := { s.sched with phase := p } }

/-! ### The timer phase (R149, R164 phase 2) -/

/-- The timers of R149, each under the name of the block that holds it. -/
inductive TimerId
  | response (tag : Tag)
  | sendPoint
  | lockFetch
  | report
  | beat
  | nodeHold (index : DwIndex)
  | hostHold
  | kept
  | claim
  | quarantine (tag : Tag)
deriving DecidableEq, Repr

/-- The tag's response timer has come due. -/
def TagState.responseDue (tick : Nat) : TagState → Bool
  | .busy b => b.awaiting && timerDue b.response tick
  | .free | .quarantine _ => false

/-- The tag's quarantine timer has come due. -/
def TagState.quarantineDue (tick : Nat) : TagState → Bool
  | .quarantine t => t.isDue tick
  | .free | .busy _ => false

/-- The lowest tag whose timer a test finds due. -/
def State.dueTag (due : Nat → TagState → Bool) (s : State) : Option Tag :=
  (List.finRange 4).find? fun t => due s.sched.tick (s.tag t)

/-- The Lock Table entry's hold timer has come due; a HOST entry has none (R105). -/
def LockEntry.holdDue (tick : Nat) (e : LockEntry) : Bool :=
  match e.owner with
  | .host => false
  | .node _ _ _ t => t.isDue tick

/-- The lowest doubleword whose node entry has come due (R108). -/
def State.dueNodeLock (s : State) : Option DwIndex :=
  (((s.ilu.table.filter fun e => e.holdDue s.sched.tick).map fun e => e.index.toNat).min?).map (BitVec.ofNat 8)

/-- The retry window of the send point's request has come due. -/
def State.sendPointDue (s : State) : Bool :=
  s.engine.sendPoint.any fun sp => timerDue sp.window.timer s.sched.tick

/-- The retry window of a Span LOCK_FETCH request away from the send point has come due. -/
def State.lockFetchDue (s : State) : Bool := s.lockWindowTag.isSome || s.lockWindowEntry.isSome

/-- The retry window of the report queue's head has come due. -/
def State.reportDue (s : State) : Bool :=
  !s.engine.reports.isEmpty && timerDue s.engine.reportHead.window.timer s.sched.tick

/-- The retry window of the head beat has come due. -/
def State.beatDue (s : State) : Bool :=
  !s.inbound.beats.isEmpty && timerDue s.inbound.head.window.timer s.sched.tick

/-- The host lock's hold timer has come due in HELD. -/
def State.hostHoldDue (s : State) : Bool :=
  s.ilu.lock.state == .held && timerDue s.ilu.lock.hold s.sched.tick

/-- The retry window of the kept Exchange fetch has come due. -/
def State.keptDue (s : State) : Bool := s.ilu.kept.any fun k => k.window.isDue s.sched.tick

/-- The claim timer has come due. -/
def State.claimDue (s : State) : Bool := s.ilu.claim.driving && timerDue s.ilu.claim.timer s.sched.tick

/-- The first expiry due of each block, blocks in the order of R164's phase 2. -/
def State.expiriesDue (s : State) : List (Option TimerId) :=
  [(s.dueTag TagState.responseDue).map .response, if s.sendPointDue then some .sendPoint else none,
    if s.lockFetchDue then some .lockFetch else none, if s.reportDue then some .report else none,
    if s.beatDue then some .beat else none, s.dueNodeLock.map .nodeHold,
    if s.hostHoldDue then some .hostHold else none, if s.keptDue then some .kept else none,
    if s.claimDue then some .claim else none, (s.dueTag TagState.quarantineDue).map .quarantine]

/-- The next expiry to be handled (R164). -/
def State.nextExpiry (s : State) : Option TimerId := s.expiriesDue.findSome? id

/-- The claim timer has expired: the line is released and CLAIM_TIMEOUT logged (R110). -/
def State.expireClaim (s : State) : State := (s.raise (s.ilu.lock.fault .claimTimeout)).releaseClaim

/-- Handles one expiry by the rule of its block. -/
def State.expire (t : TimerId) (s : State) : State :=
  match t with
  | .response tag => s.expireResponse tag
  | .sendPoint => s.expireSendPoint
  | .lockFetch => s.expireLockFetch
  | .report => s.expireReport
  | .beat => s.expireBeat
  | .nodeHold i => s.expireNodeLock i
  | .hostHold => s.expireHostHold
  | .kept => s.expireKept
  | .claim => s.expireClaim
  | .quarantine tag => s.expireQuarantine tag

/-- Handles at most `n` expiries, each the next in order. -/
def State.expireAll (s : State) : Nat → State
  | 0 => s
  | n + 1 =>
    match s.nextExpiry with
    | none => s
    | some t => (s.expire t).expireAll n

/-- More expiries than the structures of a state can hold timers for. -/
def State.timerCount (s : State) : Nat := 32 + s.engine.queue.length + s.ilu.table.length

/-- An offer that waited for the tick boundary becomes eligible. -/
def OfferState.atTick : OfferState → OfferState
  | .waiting => .eligible
  | .eligible => .eligible
  | .outstanding => .outstanding

/-- A head's offer state at the tick boundary. -/
def HeadOffer.atTick (h : HeadOffer) : HeadOffer := { h with offer := h.offer.atTick }

/-- The send point at the tick boundary. -/
def SendPoint.atTick (p : SendPoint) : SendPoint := { p with offer := p.offer.atTick }

/-- A queue entry at the tick boundary: a re-offered LOCK-READ becomes movable (R88). -/
def QueueEntry.atTick (e : QueueEntry) : QueueEntry := { e with waitTick := false }

/-- A kept Exchange fetch at the tick boundary is ready again (R99). -/
def KeptFetch.atTick (k : KeptFetch) : KeptFetch := { k with ready := true }

/-- Everything that waited for the tick boundary becomes eligible or ready (R148, R164). -/
def State.releaseWaiting (s : State) : State :=
  { s with
    engine := { s.engine with
      queue := s.engine.queue.map QueueEntry.atTick
      sendPoint := s.engine.sendPoint.map SendPoint.atTick
      reportHead := s.engine.reportHead.atTick }
    ilu := { s.ilu with kept := s.ilu.kept.map KeptFetch.atTick }
    inbound := { s.inbound with head := s.inbound.head.atTick } }

/-- The rest of the timer phase: every expiry still due, then what waited, then the batch (R141, R164). -/
def State.finishTimers (s : State) : State :=
  (((s.expireAll s.timerCount).releaseWaiting).logBatch).setPhase .packets

/-! ### The end of a step (R116, R164 phase 5) -/

/-- An action of the end-of-step pass. -/
inductive PassAction
  | enterStaged
  | placeWaiting
  | moveHead (e : QueueEntry)
  | grant (g : Grant) (run : Nat)
deriving DecidableEq, Repr

/-- The head of the Outbound Queue, if it may move to the send point (R79). -/
def State.movableHead (s : State) : Option QueueEntry := s.engine.queue.head?.filter fun e => s.mayMove e

/-- A grant, while the pass has made fewer than four (R116). -/
def State.nextGrant (s : State) : Option PassAction :=
  if s.sched.grants < 4 then s.arbitrate.map fun p => .grant p.1 p.2 else none

/-- The next action of the pass: a staged or waiting request is placed as soon as it can be, then the head moves, then
the arbiter grants (R116). -/
def State.passNext (s : State) : Option PassAction :=
  if s.stagedCanEnter then some .enterStaged
  else if s.waitingCanPlace then some .placeWaiting
  else
    match s.movableHead with
    | some e => some (.moveHead e)
    | none => s.nextGrant

/-- Makes an action of the pass. -/
def State.passAct (a : PassAction) (s : State) : State :=
  match a with
  | .enterStaged => s.enterStaged
  | .placeWaiting => s.placeWaiting
  | .moveHead e => s.moveHead e
  | .grant g run => s.grant g run

/-- Repeats the actions until none is left (R116). At most 4 grants, 1 movement and 4 placements fit in one pass. -/
def State.passAll (s : State) : Nat → State
  | 0 => s
  | n + 1 =>
    match s.passNext with
    | none => s
    | some a => (s.passAct a).passAll n

/-- The drain test (R17). -/
def State.drainTest (s : State) : State :=
  if s.host.drainPending && s.drained then
    { s with host := { s.host with drainPending := false, idleLatch := true } }
  else s

/-! ### Joining and ending a step -/

/-- The place of a phase in a step. -/
def Phase.rank : Phase → Nat
  | .between => 0
  | .spanLine => 1
  | .claimLine => 2
  | .timers => 3
  | .packets => 4
  | .host => 5
  | .exam => 6
  | .pass => 7

/-- Phases with several events in one step; each line changes at most once (R164). -/
def Phase.repeats : Phase → Bool
  | .timers | .packets | .host | .pass => true
  | .between | .spanLine | .claimLine | .exam => false

/-- The event of phase `p` belongs to the step in progress: it comes in the order of R164, and a step holds at most one
tick boundary (R148). -/
def State.joins (s : State) (p : Phase) : Bool :=
  s.sched.phase != .between &&
    ((s.sched.phase == p && p.repeats) || (s.sched.phase.rank < p.rank && !(p == .timers && s.sched.onGrid)))

/-- The step reaches a tick boundary. -/
def State.startTimers (s : State) : State :=
  { s with sched := { s.sched with phase := .timers, tick := s.sched.tick + 1, onGrid := true } }

/-- The step comes to its end-of-step pass: the CLAIM examination, if it has not been made (R109). -/
def State.startPass (s : State) : State :=
  let examined := if s.sched.phase.rank < Phase.exam.rank then s.claimExam else s
  { examined with sched := { examined.sched with phase := .pass, grants := 0 } }

/-- Leaves the timer phase, if the step is in it. -/
def State.leaveTimers (s : State) : State := if s.sched.phase = .timers then s.finishTimers else s

/-- The step in progress goes on to a later phase. -/
def State.advance (p : Phase) (s : State) : State :=
  if s.sched.phase = p then s
  else
    match p with
    | .timers => s.startTimers
    | .pass => s.leaveTimers.startPass
    | .between | .spanLine | .claimLine | .packets | .host | .exam => s.leaveTimers.setPhase p

/-- The record of the step once it has ended. -/
def State.endStep (s : State) : State :=
  { s with sched := { s.sched with phase := .between, onGrid := false, grants := 0 } }

/-- The step has reached its pass; a step in its pass already stays in it. -/
def State.toPass (s : State) : State := if s.sched.phase = .pass then s else s.leaveTimers.startPass

/-- Ends the step in progress: the rest of its phases, the pass and the drain test (R164). -/
def State.closeStep (s : State) : State :=
  if s.sched.phase = .between then s else ((s.toPass.passAll 16).drainTest.logBatch).endStep

/-- Begins a step at a phase. -/
def State.openStep (p : Phase) (s : State) : State :=
  match p with
  | .timers => s.startTimers
  | .pass => s.startPass
  | .between | .spanLine | .claimLine | .packets | .host | .exam => s.setPhase p

/-- An event of phase `p` comes: it joins the step in progress, or that step ends and another begins. In reset and
initialization there are no steps. -/
def State.enter (p : Phase) (s : State) : State :=
  if !s.running then s
  else if p = .between then s.closeStep
  else if s.joins p then s.advance p
  else s.closeStep.openStep p

end Sys2Proof.Machine
end

