-- ==== Sys2Proof/Machine/Reports.lean ====
section
/-! DEFINITION. The report buffer (R18, R20) and the layout of every report (R131, R146, R147, R153 to R156). -/

namespace Sys2Proof.Machine

/-- Replaces the Host Port's state. -/
def State.setHost (h : HostPort) (s : State) : State := { s with host := h }

/-- The Host Port with a report loaded from byte 0 (R18). -/
def HostPort.load (h : HostPort) (bytes : List Byte) : HostPort :=
  { h with decoder := .report, report := Vector.ofFn fun i => bytes.getD i.val 0#8, reportLength := bytes.length,
           reportPointer := 0 }

/-- Loads the report buffer and enters REPORT (R18). -/
def State.loadReport (bytes : List Byte) (s : State) : State := s.setHost (s.host.load bytes)

/-- The byte of the report buffer at the read pointer. -/
def HostPort.reportByte (h : HostPort) : Byte := h.report.toList.getD h.reportPointer 0#8

/-- A data read in REPORT: the state after it and the byte (R20). -/
def State.readReport (s : State) : State × Byte :=
  if s.host.reportPointer < s.host.reportLength then
    (s.setHost { s.host with reportPointer := s.host.reportPointer + 1 }, s.host.reportByte)
  else (s.raise (hostFault .underrun), 0#8)

/-! ### Layouts -/

/-- A count as a byte. -/
def countByte (n : Nat) : Byte := BitVec.ofNat 8 n

/-- An optional field of the FAULT report: FFh when absent (R146). -/
def orFF (b : Option Byte) : Byte := b.getD 0xFF#8

/-- IDENTITY (R153). -/
def State.identityReport (s : State) : List Byte :=
  [Config.partCodeLow, Config.partCodeHigh, Config.revision, s.power.node.setWidth 8,
    s.pins.strapLevels.setWidth 8, 0#8]

/-- Byte 6 of COUNTERS: the direction in DIRECTION's layout (R154). -/
def Addressing.directionByte (a : Addressing) : Byte := bit 0 a.offDec ||| bit 1 a.pageDec ||| bit 2 a.pageMajor

/-- Byte 7 of COUNTERS: the edge flags (R154). -/
def Addressing.edgeByte (a : Addressing) : Byte := bit 0 a.offEdge ||| bit 1 a.pageEdge

/-- COUNTERS (R154). -/
def Addressing.report (a : Addressing) : List Byte :=
  [a.pageReg, a.pageCtr, a.offReg, a.offCtr, a.low, a.high, a.directionByte, a.edgeByte]

/-- Byte 1 of FAULT for a captured fault (R146). -/
def FaultRecord.flagByte (f : FaultRecord) (overflow : Bool) : Byte :=
  bit 7 true ||| bit 0 f.code.hard ||| bit 1 overflow ||| bit 2 f.page.isSome ||| bit 3 f.offset.isSome

/-- Bytes 8 to 12 of FAULT (R146). -/
def addressField (a : Option SpanAddr) : List Byte :=
  match a with
  | some a => addressBytes a ++ [addressTop a]
  | none => List.replicate 5 0xFF#8

/-- FAULT (R146). -/
def FaultLog.faultReport (l : FaultLog) : List Byte :=
  match l.capture with
  | none => [0#8, 0#8] ++ List.replicate 11 0xFF#8
  | some f =>
    [f.code.byte, f.flagByte l.overflow, f.origin.reportByte, orFF (f.tag.map fun t => countByte t.val),
      orFF (f.kind.map Kind.reportByte), orFF (f.peer.map fun n => n.setWidth 8), orFF f.page, orFF f.offset] ++
      addressField f.address

/-- SUMMARY (R147). -/
def FaultLog.summaryReport (l : FaultLog) : List Byte := wordBytes l.summary

/-- Byte 1 of ENGINE (R155). Bit 5 is the IDLE latch as it stands when the report is loaded (R18; assumption log 23, DESIGN
CHOICE, unsafe). -/
def State.engineFlags (s : State) : Byte :=
  bit 0 s.streams.staging.isSome ||| bit 3 s.engine.abandoned ||| bit 4 s.host.drainPending |||
    bit 5 s.host.idleLatch ||| bit 6 s.power.asleep

/-- The send point's number in ENGINE (R155). -/
def OfferState.reportByte : OfferState → Byte
  | .eligible => 1
  | .outstanding => 2
  | .waiting => 3

/-- A tag's number in ENGINE (R155). -/
def TagState.number : TagState → Nat
  | .free => 0
  | .busy b => if b.awaiting then 2 else 1
  | .quarantine _ => 3

/-- Byte 3 of ENGINE: two bits per tag (R155). -/
def State.tagsByte (s : State) : Byte :=
  countByte ((s.tag 0).number + 4 * (s.tag 1).number + 16 * (s.tag 2).number + 64 * (s.tag 3).number)

/-- The abort-release flag of a tag. -/
def TagState.abortRelease : TagState → Bool
  | .busy b => b.abortRelease
  | .free | .quarantine _ => false

/-- The reread-used flag of a tag. -/
def TagState.rereadUsed : TagState → Bool
  | .busy b => b.rereadUsed
  | .free | .quarantine _ => false

/-- Four flags, one per tag, from a bit position on. -/
def State.tagFlags (s : State) (from_ : Nat) (f : TagState → Bool) : Byte :=
  bit from_ (f (s.tag 0)) ||| bit (from_ + 1) (f (s.tag 1)) ||| bit (from_ + 2) (f (s.tag 2)) |||
    bit (from_ + 3) (f (s.tag 3))

/-- The lock's target is in Exchange Memory. -/
def HostLock.inExchange (l : HostLock) : Bool :=
  match l.target with
  | some (.exchange _) => true
  | some (.span _) | none => false

/-- ENGINE (R155). -/
def State.engineReport (s : State) : List Byte :=
  [countByte s.engine.queue.length, s.engineFlags, (s.engine.sendPoint.map fun p => p.offer.reportByte).getD 0,
    s.tagsByte, s.tagFlags 0 TagState.abortRelease ||| s.tagFlags 4 TagState.rereadUsed,
    countByte s.engine.reports.length, s.ilu.lock.state.reportByte ||| bit 7 s.ilu.lock.inExchange,
    bit 0 s.ilu.claim.driving ||| bit 1 s.ilu.claim.waiting ||| bit 2 s.ilu.claim.used ||| bit 3 s.claimLine,
    s.ilu.claim.heldCount, countByte s.inbound.queue.length, countByte s.inbound.beats.length,
    countByte s.notices.queue.length, s.notices.arrival,
    countByte s.ilu.table.length ||| bit 7 (s.ilu.table.any LockEntry.hostOwned), countByte s.xmm.run]

/-- STATISTICS (R153). -/
def State.statisticsReport (s : State) : List Byte :=
  [lowByte s.engine.retries, highByte s.engine.retries, s.engine.strays, s.log.mended]

/-- The id that a byte names as a setting id, if it is at most 9 (R150, R154). -/
def settingIndex (b : Byte) : Option (Fin 10) := if h : b.toNat < 10 then some ⟨b.toNat, h⟩ else none

/-- SETTING of an id (R154). -/
def State.settingReport (i : Fin 10) (s : State) : List Byte :=
  [countByte i.val, lowByte (s.setting i), highByte (s.setting i)]

/-- LOCK (R156). -/
def HostLock.report (l : HostLock) : List Byte := [l.state.reportByte, l.status.reportByte] ++ l.data.toList

/-- Bytes 4 to 9 of TAKEN for a record (R131). -/
def NoticeBody.report : NoticeBody → List Byte
  | .notice c => [lowByte c, highByte c, 0, 0, 0, 0]
  | .faultReport fc a => [fc, addressTop a] ++ addressBytes a

/-- The kind number of TAKEN (R131). -/
def NoticeBody.number : NoticeBody → Byte
  | .notice _ => 1
  | .faultReport _ _ => 2

/-- TAKEN (R131). -/
def Notices.takenReport (n : Notices) : List Byte :=
  match n.taken with
  | none => List.replicate 10 0#8
  | some r =>
    [r.body.number ||| bit 7 n.withdrawn, r.level.setWidth 8, r.source.setWidth 8, r.sequence] ++ r.body.report

/-- The report that an id and a selector name; `none` is PARAM_RANGE (R19). -/
def State.reportFor (id selector : Byte) (s : State) : Option (List Byte) :=
  match id.toNat with
  | 0 => some s.identityReport
  | 1 => some s.addr.report
  | 2 => some s.log.faultReport
  | 3 => some s.log.summaryReport
  | 4 => some s.engineReport
  | 5 => some s.statisticsReport
  | 6 => (settingIndex selector).map fun i => s.settingReport i
  | 7 => some s.ilu.lock.report
  | 8 => some s.notices.takenReport
  | _ => none

end Sys2Proof.Machine
end

