-- ==== Sys2Proof/Machine/Resets.lean ====
section
/-! DEFINITION. What the two resets, the RESTART pair and SPAN-RESET do to the state (chapter 11). -/

namespace Sys2Proof.Machine

/-! ### The RESTART pair (R159) -/

/-- A tag after RESTART: a BUSY tag enters QUARANTINE, a quarantine continues (R76, R159). -/
def TagState.restarted (timer : Timer) : TagState → TagState
  | .free => .free
  | .busy _ => .quarantine timer
  | .quarantine t => .quarantine t

/-- The outbound side after RESTART; the counters keep their values (R76, R159). -/
def State.restartedEngine (s : State) : Engine :=
  { s.engine with
    queue := [], sendPoint := none, abandoned := false, abandonedTag := none
    outstanding := s.engine.outstanding.map fun _ => .orphaned
    tags := s.engine.tags.map (TagState.restarted s.startQuarantine)
    reports := [], reportHead := .fresh }

/-- The effect of the second RESTART byte (R159). -/
def State.restart (s : State) : State :=
  { s with
    host := .reset, addr := .reset, streams := .reset, engine := s.restartedEngine, ilu := .reset
    inbound := .reset, xmm := { s.xmm with run := 0 }, notices := .reset
    power := { s.power with asleep := false } }

/-! ### SPAN-RESET (R160, R161) -/

/-- The request is host-originated (R75). -/
def Request.fromHost (r : Request) : Bool := r.origin.fromHost

/-- The tag is BUSY with a host-originated request. -/
def TagState.holdsHost : TagState → Bool
  | .busy b => b.req.fromHost
  | .free | .quarantine _ => false

/-- SPAN-RESET discards at least one host-originated request (R160, step 1). -/
def State.losesRequest (s : State) : Bool :=
  s.engine.queue.any (fun e => e.req.fromHost) || s.streams.staging.any Request.fromHost ||
    s.streams.deferred.any Request.fromHost || s.ilu.waiting.any Request.fromHost ||
    s.ilu.kept.any (fun k => k.req.fromHost) || s.engine.sendPoint.any (fun p => p.req.fromHost) ||
    s.engine.tags.toList.any TagState.holdsHost

/-- The fault of an assertion of SPAN-RESET (R139, R160). -/
def State.spanResetFault (s : State) : FaultRecord :=
  bareFault (if s.losesRequest then .spanResetLoss else .spanReset) .outbound

/-- The outbound side after SPAN-RESET; the counters keep their values (R76, R160). -/
def Engine.spanReset (e : Engine) : Engine :=
  { e with
    queue := [], sendPoint := none, abandoned := false, abandonedTag := none
    outstanding := e.outstanding.map fun _ => .orphaned
    tags := Vector.replicate 4 .free, reports := [], reportHead := .fresh }

/-- The Interlock Unit after SPAN-RESET: the lock data and data status are kept (R160, step 3). -/
def Interlock.spanReset (i : Interlock) : Interlock :=
  { lock := i.lock.clear, waiting := none, kept := none, table := [], claim := .reset }

/-- The Notice Queue after SPAN-RESET: the arrival sequence counter is kept (R126). -/
def Notices.spanReset (n : Notices) : Notices := { n with queue := [], taken := none, withdrawn := false }

/-- What SPAN-RESET clears: steps 2 to 4 of R160. -/
def State.spanClear (s : State) : State :=
  { s with
    streams := { s.streams with staging := none, deferred := none, current := .empty, ahead := .empty }
    engine := s.engine.spanReset, ilu := s.ilu.spanReset, inbound := .reset
    xmm := { s.xmm with run := 0 }, notices := s.notices.spanReset }

/-- The level of the SPAN-RESET line. -/
def State.setSpanLine (asserted : Bool) (s : State) : State := { s with pins := { s.pins with spanReset := asserted } }

/-- The handling of an assertion of SPAN-RESET (R160). -/
def State.assertSpanReset (s : State) : State := (s.spanClear.raise s.spanResetFault).setSpanLine true

/-! ### Power-on reset and pin reset (R157, R158) -/

/-- The bridge enters reset: nothing in progress is completed, no offer is outstanding, no line is driven, and the
straps are sampled (R57, R76, R157, R158). -/
def State.hold (kind : ResetKind) (straps : Node) (prior : Option ApertureNumber) (s : State) : State :=
  { s with
    sched := { s.sched with phase := .between, onGrid := false, grants := 0 }
    raised := []
    pins := { s.pins with strapLevels := straps }
    power := { mode := .held kind, priorAperture := prior, node := straps, asleep := false }
    engine := { s.engine with outstanding := none }
    ilu := { s.ilu with claim := .reset } }

/-- The start of a pin reset, by what it interrupts (R158). In reset RESET# is asserted already; in power-on
initialization the power-on reset resumes (assumption log 7). -/
def State.startPinReset (straps : Node) (s : State) : State :=
  match s.power.mode with
  | .running => s.hold .pin straps s.aperture
  | .held _ => s
  | .initializing k => s.hold k straps s.power.priorAperture

/-- The end of a reset: initialization begins (R157, R158). -/
def State.endReset (s : State) : State :=
  match s.power.mode with
  | .held k => { s with power := { s.power with mode := .initializing k } }
  | .running | .initializing _ => s

/-- The first step after the timebase restarts, at its origin (R148, R157). -/
def Sched.first : Sched := { Sched.reset with phase := .spanLine, onGrid := true }

/-- The state at the end of initialization: every element at its power-on value, except what pin reset keeps. -/
def State.initialized (k : ResetKind) (s : State) : State :=
  { State.reset with
    pending := s.pending, pins := s.pins, out := s.out, sched := .first
    power := { mode := .running, priorAperture := none, node := s.power.node, asleep := false }
    map := if k = .pin then s.map else State.reset.map
    gate := if k = .pin then s.gate else State.reset.gate
    xmm := { mem := if k = .pin then s.xmm.mem else [], run := 0 } }

/-- The end of reset initialization (R157, R158). -/
def State.endInitialization (s : State) : State :=
  match s.power.mode with
  | .initializing k => s.initialized k
  | .running | .held _ => s

end Sys2Proof.Machine
end

