-- ==== Sys2Proof/Machine/HostPort.lean ====
section
/-! DEFINITION. The Host Port (chapter 1): the classification of each host cycle, the prelude, collections, the RESTART
pair, and the effect of every command of section 1.3. -/

namespace Sys2Proof.Machine

/-! ### The effects of commands -/

/-- PARAM_RANGE (R7). -/
def State.paramRange (s : State) : State := s.raise (hostFault .paramRange)

/-- Replaces the addressing state, or logs PARAM_RANGE where the check of the page failed (R7, R23, R25). -/
def State.setAddr (a : Option Addressing) (s : State) : State :=
  match a with
  | some a => { s with addr := a }
  | none => s.paramRange

/-- Puts the decoder in a state. -/
def State.setDecoder (d : Decoder) (s : State) : State := s.setHost { s.host with decoder := d }

/-- DIRECTION (R26). -/
def State.directionCmd (d : Byte) (s : State) : State :=
  if d.extractLsb' 3 5 = 0#5 then s.setAddr (some (s.addr.setDirection d)) else s.paramRange

/-- WINDOW LIMIT (R27). -/
def State.windowLimitCmd (low high : Byte) (s : State) : State :=
  if low ≤ high then s.setAddr (some (s.addr.setLimits low high)) else s.paramRange

/-- READ STREAM (R37). -/
def State.readStreamCmd (s : State) : State := s.invalidate.demandFetch.setDecoder .readStream

/-- DRAIN (R16). -/
def State.drainCmd (s : State) : State := (s.setHost { s.host with drainPending := true }).drainTest

/-- MAP WRITE with six parameters (R45). -/
def State.mapWriteCmd (index flags b0 b1 b2 b3 : Byte) (s : State) : State :=
  if frameInRange b3 then s.setMapEntry index (.computed flags (frameOfBytes b0 b1 b2 b3)) else s.paramRange

/-- MAP WRITE with seven parameters (R46). -/
def State.mapWriteSupplied (index flags b0 b1 b2 b3 check : Byte) (s : State) : State :=
  if frameInRange b3 && !check.getLsbD 7 then
    s.setMapEntry index { flags := flags, frame := frameOfBytes b0 b1 b2 b3, check := check.setWidth 7 }
  else s.paramRange

/-- MAP READ (R55). -/
def State.mapReadCmd (index : Byte) (s : State) : State :=
  (s.readMapEntry index).1.loadReport (s.readMapEntry index).2

/-- GATE WRITE (R118). -/
def State.gateWriteCmd (index control kinds base mask low high : Byte) (s : State) : State :=
  match gateIndex index with
  | some i =>
    if gateBytesInRange control kinds then s.setGateEntry i (.ofBytes control kinds base mask low high)
    else s.paramRange
  | none => s.paramRange

/-- GATE READ (R119). -/
def State.gateReadCmd (index : Byte) (s : State) : State :=
  match gateIndex index with
  | some i => s.loadReport (s.gateEntry i).bytes
  | none => s.paramRange

/-- SET (R150). -/
def State.setCmd (id low high : Byte) (s : State) : State :=
  match settingIndex id with
  | some i =>
    if (high ++ low : BitVec 16) &&& ~~~settingMask i = 0#16 then
      { s with settings := s.settings.set i.val (high ++ low) }
    else s.paramRange
  | none => s.paramRange

/-- REPORT (R19). -/
def State.reportCmd (id selector : Byte) (s : State) : State :=
  match s.reportFor id selector with
  | some bytes => s.loadReport bytes
  | none => s.paramRange

/-- The highest level present in the queue (R130). -/
def topLevel (q : List NoticeRecord) : Level := q.foldl (fun m r => if m ≤ r.level then r.level else m) 0

/-- The record TAKE NOTICE selects: the oldest of the highest level present (R130). -/
def selectNotice (q : List NoticeRecord) : Option NoticeRecord := q.find? fun r => r.level == topLevel q

/-- The notice state after TAKE NOTICE (R130). -/
def Notices.take (n : Notices) : Notices :=
  { n with queue := n.queue.eraseP fun r => r.level == topLevel n.queue, taken := selectNotice n.queue,
           withdrawn := false }

/-- TAKE NOTICE (R130). -/
def State.takeNoticeCmd (s : State) : State :=
  ({ s with notices := s.notices.take } : State).loadReport s.notices.take.takenReport

/-- The request of SEND NOTICE and SEND RECALL (R133). -/
def noticeRequest (origin : Origin) (kind : Kind) (node : Node) (level : Level) (code : NoticeCode) (serial : Nat) :
    Request :=
  { serial := serial, origin := origin, kind := kind, dest := .node node, words := 0, enables := [], data := [],
    note := some (level, code), confirm := false, reread := false, window := none, abortRelease := false }

/-- SEND NOTICE and SEND RECALL (R133). -/
def State.sendCmd (origin : Origin) (kind : Kind) (node level low high : Byte) (s : State) : State :=
  if node < 16 ∧ level < 4 ∧ node ≠ s.power.node.setWidth 8 then
    s.takeSerial.place
      (noticeRequest origin kind (node.setWidth 4) (level.setWidth 2) (high ++ low) s.sched.serial)
  else s.paramRange

/-- FAULT RELEASE: the faults of the cycle so far are logged first (R144). -/
def State.faultReleaseCmd (s : State) : State :=
  { s.logBatch with log := { s.logBatch.log with capture := none, overflow := false } }

/-- FAULT CLEAR (R145). -/
def State.faultClearCmd (code : Byte) (s : State) : State :=
  if code = 0xFF#8 then { s with log := { s.log with summary := 0 } }
  else if 0x01#8 ≤ code ∧ code ≤ 0x1E#8 then
    { s with log := { s.log with summary := s.log.summary &&& ~~~(BitVec.twoPow 32 code.toNat) } }
  else s.paramRange

/-- Sleep or waking. -/
def State.setAsleep (asleep : Bool) (s : State) : State := { s with power := { s.power with asleep := asleep } }

/-- SLEEP (R162). -/
def State.sleepCmd (s : State) : State :=
  if s.maySleep then s.setAsleep true else s.raise (hostFault .protocol)

/-- Parameter `i` of a command. -/
def param (ps : List Byte) (i : Nat) : Byte := ps.getD i 0#8

/-- Executes a command with the parameters it owed (section 1.3). -/
def State.execute (c : Command) (ps : List Byte) (s : State) : State :=
  match c with
  | .nop => s
  | .setPage => s.setAddr (s.addr.setPage (param ps 0))
  | .setOffset => s.setAddr (some (s.addr.setOffset (param ps 0)))
  | .setAddress => s.setAddr (s.addr.setAddress (param ps 0) (param ps 1))
  | .direction => s.directionCmd (param ps 0)
  | .windowLimit => s.windowLimitCmd (param ps 0) (param ps 1)
  | .nextLine => s.setAddr (some s.addr.nextLine)
  | .reload => s.setAddr (some s.addr.reload)
  | .clearCounters => s.setAddr (some s.addr.clear)
  | .writeStream => s.setDecoder .writeStream
  | .readStream => s.readStreamCmd
  | .drain => s.drainCmd
  | .fetchLock => s.fetchLock
  | .storeUnlock => s.storeUnlock (param ps 0) (ps.drop 1)
  | .releaseLock => s.releaseLock
  | .mapWrite =>
    if ps.length = 7 then
      s.mapWriteSupplied (param ps 0) (param ps 1) (param ps 2) (param ps 3) (param ps 4) (param ps 5) (param ps 6)
    else s.mapWriteCmd (param ps 0) (param ps 1) (param ps 2) (param ps 3) (param ps 4) (param ps 5)
  | .mapRead => s.mapReadCmd (param ps 0)
  | .gateWrite =>
    s.gateWriteCmd (param ps 0) (param ps 1) (param ps 2) (param ps 3) (param ps 4) (param ps 5) (param ps 6)
  | .gateRead => s.gateReadCmd (param ps 0)
  | .set => s.setCmd (param ps 0) (param ps 1) (param ps 2)
  | .report => s.reportCmd (param ps 0) (param ps 1)
  | .takeNotice => s.takeNoticeCmd
  | .sendNotice => s.sendCmd .noticeSend .notice (param ps 0) (param ps 1) (param ps 2) (param ps 3)
  | .sendRecall => s.sendCmd .recallSend .recall (param ps 0) (param ps 1) (param ps 2) (param ps 3)
  | .faultRelease => s.faultReleaseCmd
  | .faultClear => s.faultClearCmd (param ps 0)
  | .abort => s.abort
  | .restart => s.restart
  | .sleep => s.sleepCmd
  | .wake => s.setAsleep false

/-! ### The prelude (R5, R8) -/

/-- Clears the IDLE latch (R5, step 1). -/
def State.clearLatch (s : State) : State := s.setHost { s.host with idleLatch := false }

/-- Ends a stream: the decoder goes to IDLE, and the end of READ STREAM invalidates the Read Buffers (R5, step 3). -/
def State.endStream (s : State) : State :=
  match s.host.decoder with
  | .readStream => s.invalidate.setDecoder .idle
  | .writeStream | .report => s.setDecoder .idle
  | .idle | .collecting => s

/-- The page a cancelled SET ADDRESS keeps (R8). -/
def Collected.keepsPage (c : Collected) (s : State) : State :=
  match c.command, c.params with
  | .setAddress, page :: _ => { s with addr := s.addr.storePage page }
  | _, _ => s

/-- Leaves COLLECTING. -/
def State.dropCollection (s : State) : State := s.setHost { s.host with decoder := .idle, collected := none }

/-- Cancels a collection with PARAM_CUT (R5, step 4; R8). -/
def State.cancelCollection (s : State) : State :=
  match s.host.collected with
  | some c => (c.keepsPage s.dropCollection).raise (hostFault .paramCut)
  | none => s

/-- The prelude of every command byte; ABORT skips the seal (R5, steps 1 to 4). -/
def State.commandPrelude (skipSeal : Bool) (s : State) : State :=
  ((if skipSeal then s.clearLatch else s.clearLatch.seal).endStream).cancelCollection

/-! ### Command bytes (R5, R6, R9, R12) -/

/-- Begins a collection (R4). -/
def State.collect (c : Command) (owed : Nat) (s : State) : State :=
  s.setHost { s.host with decoder := .collecting,
                          collected := some { command := c, owed := owed, params := [], lapsed := false } }

/-- Decodes a command byte after its prelude (R5, step 5). -/
def State.decode (c : Option Command) (s : State) : State :=
  match c with
  | none => s.raise (hostFault .cmdUnknown)
  | some c =>
    if c.owed s.checkSupply = 0 then s.execute c []
    else s.collect c (c.owed s.checkSupply)

/-- The commands that pass the sleep filter (R6). -/
def passesSleep : Option Command → Bool
  | some .wake | some .restart | some .report | some .takeNotice => true
  | _ => false

/-- Sets or clears the RESTART half-seen flag (R12). -/
def State.setHalf (b : Bool) (s : State) : State := s.setHost { s.host with halfSeen := b }

/-- A RESTART byte: the first of a pair sets the flag, the second performs the restart (R12). -/
def State.restartByte (s : State) : State := if s.host.halfSeen then s.restart else s.setHalf true

/-- A command byte (R5, R6, R12). -/
def State.commandByte (b : Byte) (s : State) : State :=
  if s.power.asleep && !passesSleep (decodeCommandByte b) then (s.setHalf false).raise (hostFault .protocol)
  else if decodeCommandByte b = some .restart then s.restartByte
  else ((s.setHalf false).commandPrelude (decodeCommandByte b == some .abort)).decode (decodeCommandByte b)

/-! ### Parameter bytes (R2, R7) -/

/-- A collection is open (R2). -/
def HostPort.collecting (h : HostPort) : Bool := h.collected.any fun c => !c.lapsed

/-- The open collection becomes lapsed (R2, R10). -/
def HostPort.lapse (h : HostPort) : HostPort :=
  { h with collected := h.collected.map fun c => { c with lapsed := true } }

/-- The collection with one more parameter. -/
def Collected.take (c : Collected) (b : Byte) : Collected :=
  { c with owed := c.owed - 1, params := c.params ++ [b] }

/-- A parameter byte of an open collection; the last one executes the command (R7). -/
def State.parameter (b : Byte) (s : State) : State :=
  match s.host.collected with
  | none => s
  | some c =>
    if c.owed ≤ 1 then s.dropCollection.execute c.command (c.take b).params
    else s.setHost { s.host with collected := some (c.take b) }

/-! ### Host cycles (R1, R10, R11, R13, R14) -/

/-- ABORT and RESTART, the command bytes that BUSY does not discard (R10). -/
def escapesBusy (b : Byte) : Bool := b == Command.abort.byte || b == Command.restart.byte

/-- A byte that BUSY discards (R10). -/
def State.overrun (s : State) : State := (s.setHalf false).raise (hostFault .overrun)

/-- A write with CD = 1 (R1, R2, R10, R11). -/
def State.writeCommand (b : Byte) (s : State) : State :=
  if !s.running then s
  else if s.streams.staging.isSome then
    if escapesBusy b then (s.setHost s.host.lapse).commandByte b else s.overrun
  else if s.host.collecting then (s.setHalf false).parameter b
  else s.commandByte b

/-- A write with CD = 0 (R10, R11, R13). -/
def State.writeData (b : Byte) (s : State) : State :=
  if !s.running then s
  else if s.streams.staging.isSome then s.overrun
  else if s.host.decoder = .writeStream then (s.setHalf false).mergeByte b
  else (s.setHalf false).raise (hostFault .protocol)

/-- The state and byte of a read with CD = 0 outside reset (R14). For WRITE STREAM see assumption log 6 (DEDUCED, unsafe). -/
def State.serveDataRead (s : State) : State × Byte :=
  match s.host.decoder with
  | .readStream => s.serveRead
  | .report => s.readReport
  | .idle | .collecting | .writeStream => (s.raise (hostFault .protocol), 0#8)

/-- Drives a byte on D0 to D7. -/
def State.drive (b : Byte) (s : State) : State := { s with out := { s.out with hostData := some b } }

/-- A read with CD = 0 (R11, R14). -/
def State.readData (s : State) : State :=
  if s.running then (s.setHalf false).serveDataRead.1.drive (s.setHalf false).serveDataRead.2
  else s.drive 0#8

/-- CS# asserted or released. -/
def State.select (b : Bool) (s : State) : State := { s with pins := { s.pins with selected := b } }

/-- One host cycle in its place in the step, its faults one batch (R141, R164). -/
def State.hostCycle (f : State → State) (s : State) : State := (f ((s.enter .host).select true)).logBatch

/-- One write with CD = 1. -/
def State.hostWrite (b : Byte) (s : State) : State := s.hostCycle (State.writeCommand b)

/-- Successive writes with CD = 1 in one selection. -/
def State.hostWrites (bs : List Byte) (s : State) : State := bs.foldl (fun s b => s.hostWrite b) s

/-- A release of CS# (R2). -/
def State.releaseSelect (s : State) : State :=
  ((s.enter .host).setHost (s.enter .host).host.lapse).select false

end Sys2Proof.Machine
end

