-- ==== Sys2Proof/Machine/HostCommands.lean ====
section
/-! DEFINITION. The meanings of the host-side rows: host cycles and the commands of section 1.3 as the host processor
writes them, the command byte and then its parameter bytes in one selection (assumption log 5). -/

namespace Sys2Proof.Machine

/-- NOP (R9). -/
def execNop (s : State) : Result := .next (s.hostWrite Command.nop.byte)

/-- UNKNOWN_COMMAND_BYTE (R9). -/
def execUnknownCommandByte (value : Byte) (s : State) : Result := .next (s.hostWrite value)

/-- PARAMETER_BYTE: a write with CD = 1, into an open collection if there is one (R1, R7). -/
def execParameterByte (value : Byte) (s : State) : Result := .next (s.hostCycle (State.writeCommand value))

/-- CS_RELEASE (R2). -/
def execCsRelease (s : State) : Result := .next s.releaseSelect

/-- DATA_BYTE (R13). -/
def execDataByte (value : Byte) (s : State) : Result := .next (s.hostCycle (State.writeData value))

/-- DATA_READ (R14). -/
def execDataRead (s : State) : Result := .next (s.hostCycle State.readData)

/-- SET PAGE (R23). -/
def execSetPage (ps : List Byte) (s : State) : Result := .next (s.hostWrites (Command.setPage.byte :: ps))

/-- SET OFFSET (R24). -/
def execSetOffset (ps : List Byte) (s : State) : Result := .next (s.hostWrites (Command.setOffset.byte :: ps))

/-- SET ADDRESS (R25). -/
def execSetAddress (ps : List Byte) (s : State) : Result := .next (s.hostWrites (Command.setAddress.byte :: ps))

/-- DIRECTION (R26). -/
def execDirection (ps : List Byte) (s : State) : Result := .next (s.hostWrites (Command.direction.byte :: ps))

/-- WINDOW LIMIT (R27). -/
def execWindowLimit (ps : List Byte) (s : State) : Result := .next (s.hostWrites (Command.windowLimit.byte :: ps))

/-- NEXT LINE (R28). -/
def execNextLine (s : State) : Result := .next (s.hostWrite Command.nextLine.byte)

/-- RELOAD (R29). -/
def execReload (s : State) : Result := .next (s.hostWrite Command.reload.byte)

/-- CLEAR COUNTERS (R30). -/
def execClearCounters (s : State) : Result := .next (s.hostWrite Command.clearCounters.byte)

/-- WRITE STREAM (R31). -/
def execWriteStream (s : State) : Result := .next (s.hostWrite Command.writeStream.byte)

/-- READ STREAM (R37). -/
def execReadStream (s : State) : Result := .next (s.hostWrite Command.readStream.byte)

/-- DRAIN (R16). -/
def execDrain (s : State) : Result := .next (s.hostWrite Command.drain.byte)

/-- FETCH LOCK (R97). -/
def execFetchLock (s : State) : Result := .next (s.hostWrite Command.fetchLock.byte)

/-- STORE UNLOCK (R100). -/
def execStoreUnlock (ps : List Byte) (s : State) : Result := .next (s.hostWrites (Command.storeUnlock.byte :: ps))

/-- RELEASE LOCK (R101). -/
def execReleaseLock (s : State) : Result := .next (s.hostWrite Command.releaseLock.byte)

/-- MAP WRITE (R45, R46). -/
def execMapWrite (ps : List Byte) (s : State) : Result := .next (s.hostWrites (Command.mapWrite.byte :: ps))

/-- MAP READ (R55). -/
def execMapRead (ps : List Byte) (s : State) : Result := .next (s.hostWrites (Command.mapRead.byte :: ps))

/-- GATE WRITE (R118). -/
def execGateWrite (ps : List Byte) (s : State) : Result := .next (s.hostWrites (Command.gateWrite.byte :: ps))

/-- GATE READ (R119). -/
def execGateRead (ps : List Byte) (s : State) : Result := .next (s.hostWrites (Command.gateRead.byte :: ps))

/-- SET (R150). -/
def execSet (ps : List Byte) (s : State) : Result := .next (s.hostWrites (Command.set.byte :: ps))

/-- The bytes of REPORT with an id: the command byte, then id and selector if the selector follows. -/
def reportWrites (id : Byte) (selector : Option Byte) : List Byte :=
  match selector with
  | none => [Command.report.byte]
  | some x => [Command.report.byte, id, x]

/-- The levels of NODE0 to NODE3 as they stand now. -/
def State.setLevels (levels : Node) (s : State) : State := { s with pins := { s.pins with strapLevels := levels } }

/-- REPORT IDENTITY (R153). -/
def execReportIdentity (levels : Node) (selector : Option Byte) (s : State) : Result :=
  .next ((s.setLevels levels).hostWrites (reportWrites 0 selector))

/-- REPORT COUNTERS (R154). -/
def execReportCounters (selector : Option Byte) (s : State) : Result := .next (s.hostWrites (reportWrites 1 selector))

/-- REPORT FAULT (R146). -/
def execReportFault (selector : Option Byte) (s : State) : Result := .next (s.hostWrites (reportWrites 2 selector))

/-- REPORT SUMMARY (R147). -/
def execReportSummary (selector : Option Byte) (s : State) : Result := .next (s.hostWrites (reportWrites 3 selector))

/-- REPORT ENGINE (R155). -/
def execReportEngine (selector : Option Byte) (s : State) : Result := .next (s.hostWrites (reportWrites 4 selector))

/-- REPORT STATISTICS (R153). -/
def execReportStatistics (selector : Option Byte) (s : State) : Result :=
  .next (s.hostWrites (reportWrites 5 selector))

/-- REPORT SETTING (R154). -/
def execReportSetting (selector : Option Byte) (s : State) : Result := .next (s.hostWrites (reportWrites 6 selector))

/-- REPORT LOCK (R156). -/
def execReportLock (selector : Option Byte) (s : State) : Result := .next (s.hostWrites (reportWrites 7 selector))

/-- REPORT TAKEN (R131). -/
def execReportTaken (selector : Option Byte) (s : State) : Result := .next (s.hostWrites (reportWrites 8 selector))

/-- TAKE NOTICE (R130). -/
def execTakeNotice (s : State) : Result := .next (s.hostWrite Command.takeNotice.byte)

/-- SEND NOTICE (R133). -/
def execSendNotice (ps : List Byte) (s : State) : Result := .next (s.hostWrites (Command.sendNotice.byte :: ps))

/-- SEND RECALL (R133). -/
def execSendRecall (ps : List Byte) (s : State) : Result := .next (s.hostWrites (Command.sendRecall.byte :: ps))

/-- FAULT RELEASE (R144). -/
def execFaultRelease (s : State) : Result := .next (s.hostWrite Command.faultRelease.byte)

/-- FAULT CLEAR (R145). -/
def execFaultClear (ps : List Byte) (s : State) : Result := .next (s.hostWrites (Command.faultClear.byte :: ps))

/-- ABORT (R92). -/
def execAbort (s : State) : Result := .next (s.hostWrite Command.abort.byte)

/-- RESTART_FIRST_BYTE: a RESTART byte (R12). -/
def execRestartFirstByte (s : State) : Result := .next (s.hostWrite Command.restart.byte)

/-- RESTART: the RESTART byte that completes a pair, when the half-seen flag is set (R12, R159). -/
def execRestart (s : State) : Result := .next (s.hostCycle (State.writeCommand Command.restart.byte))

/-- SLEEP (R162). -/
def execSleep (s : State) : Result := .next (s.hostWrite Command.sleep.byte)

/-- WAKE (R163). -/
def execWake (s : State) : Result := .next (s.hostWrite Command.wake.byte)

end Sys2Proof.Machine
end

