-- ==== Sys2Proof/Machine/LineEvents.lean ====
section
/-! DEFINITION. The meanings of the rows that are resets, changes of the lines, the tick boundary, an upset of the Window
Map, and a send turn. -/

namespace Sys2Proof.Machine

/-- POWER_ON_RESET: no aperture was in force before it (R71, R157). -/
def execPowerOnReset (straps : Node) (s : State) : Result := .next (s.hold .powerOn straps none)

/-- PIN_RESET; it falls between steps (R158). -/
def execPinReset (straps : Node) (s : State) : Result := .next ((s.enter .between).startPinReset straps)

/-- RESET_END (R157, R158). -/
def execResetEnd (s : State) : Result := .next s.endReset

/-- RESET_INITIALIZATION_END (R157, R158). -/
def execResetInitializationEnd (s : State) : Result := .next s.endInitialization

/-- SPAN_RESET_ASSERTION: a change of the line from deasserted to asserted (R160). In reset and initialization the line
changes without effect (R157). -/
def execSpanResetAssertion (s : State) : Result :=
  .next
    (if s.pins.spanReset then s
    else if s.running then (s.enter .spanLine).assertSpanReset.logBatch
    else s.setSpanLine true)

/-- SPAN_RESET_DEASSERTION: a change of the line from asserted to deasserted (R161). -/
def execSpanResetDeassertion (s : State) : Result :=
  .next (if s.pins.spanReset then (s.enter .spanLine).setSpanLine false else s)

/-- The level other nodes drive on CLAIM. -/
def State.setClaimLine (asserted : Bool) (s : State) : State :=
  { s with pins := { s.pins with claimOthers := asserted } }

/-- CLAIM_LINE_CHANGE (R164, phase 1). -/
def execClaimLineChange (asserted : Bool) (s : State) : Result :=
  .next (if s.pins.claimOthers = asserted then s else (s.enter .claimLine).setClaimLine asserted)

/-- MAP_UPSET, between steps (R47, R164). -/
def execMapUpset (page : Byte) (position : Fin 43) (s : State) : Result :=
  .next ((s.enter .between).upset page position)

/-- TICK_BOUNDARY: the timer phase of a step at the next tick boundary, or what is left of it when expiry rows have begun
it (R148, R164). In reset and initialization no tick boundary occurs (R157). -/
def execTickBoundary (s : State) : Result := .next (if s.running then (s.enter .timers).finishTimers else s)

/-- SEND_TURN, between steps (R74, R164). -/
def execSendTurn (s : State) : Result := .next (s.enter .between).sendTurn

end Sys2Proof.Machine
end

