-- ==== Sys2Proof/Machine/PacketEvents.lean ====
section
/-! DEFINITION. The meanings of the rows that are received packets and receipts (R59, R67 to R71, R76), each its own
batch of faults (R141). A receipt row names whose offer it answers; without such an offer outstanding it is ignored
(R59). -/

namespace Sys2Proof.Machine

/-- One received packet in its place in the step. -/
def State.packetEvent (f : State → State) (s : State) : State := (f (s.enter .packets)).logBatch

/-- INBOUND_MEMORY_REQUEST (R68). -/
def execInboundMemoryRequest (p : MemoryPacket) (s : State) : Result :=
  .next (s.packetEvent (State.receiveMemory p))

/-- INBOUND_NOTICE (R127). -/
def execInboundNotice (p : NoticePacket) (s : State) : Result := .next (s.packetEvent (State.receiveNotice p))

/-- INBOUND_RECALL (R129). -/
def execInboundRecall (p : NoticePacket) (s : State) : Result := .next (s.packetEvent (State.receiveRecall p))

/-- INBOUND_FAULT_REPORT (R128). -/
def execInboundFaultReport (p : FaultReportPacket) (s : State) : Result :=
  .next (s.packetEvent (State.receiveFaultReport p))

/-- BEAT (R70, R85). -/
def execBeat (p : BeatPacket) (s : State) : Result := .next (s.packetEvent (State.receiveBeat p))

/-- The send point's request, if its own offer awaits its receipt (R76, R93). -/
def State.offeredRequest (s : State) : Option SendPoint :=
  if s.engine.outstanding = some .sendPoint ∧ s.engine.abandoned = false then s.engine.sendPoint else none

/-- The fault report whose offer awaits its receipt (R76). -/
def State.offeredReport (s : State) : Option ReportEntry :=
  if s.engine.outstanding = some .report then s.engine.reports.head? else none

/-- The beat whose offer awaits its receipt (R76). -/
def State.offeredBeat (s : State) : Option OwedBeat :=
  if s.engine.outstanding = some .beat then s.inbound.beats.head? else none

/-- SEND_POINT_RECEIPT (R80 to R83). -/
def execSendPointReceipt (r : Receipt) (s : State) : Result :=
  .next
    (match (s.enter .packets).offeredRequest with
    | some p => s.packetEvent (State.sendPointReceipt p r)
    | none => s)

/-- REPORT_QUEUE_RECEIPT (R91). -/
def execReportQueueReceipt (r : Receipt) (s : State) : Result :=
  .next
    (match (s.enter .packets).offeredReport with
    | some e => s.packetEvent (State.reportReceipt e r)
    | none => s)

/-- BEAT_RECEIPT (R72, R73). -/
def execBeatReceipt (r : Receipt) (s : State) : Result :=
  .next
    (match (s.enter .packets).offeredBeat with
    | some b => s.packetEvent (State.beatReceipt b r)
    | none => s)

/-- ABANDONED_OFFER_RECEIPT (R93). -/
def execAbandonedOfferReceipt (r : Receipt) (s : State) : Result :=
  .next
    (if (s.enter .packets).engine.abandoned ∧ (s.enter .packets).engine.outstanding = some .sendPoint then
      s.packetEvent (State.abandonedReceipt r)
    else s)

/-- ORPHANED_RECEIPT: ignored, and no offer is outstanding any more, whatever the receipt (R76). -/
def execOrphanedReceipt (_r : Receipt) (s : State) : Result :=
  .next
    (if (s.enter .packets).engine.outstanding = some .orphaned then s.packetEvent (State.setOutstanding none) else s)

end Sys2Proof.Machine
end

