-- ==== Sys2Proof/Machine/PassEvents.lean ====
section
/-! DEFINITION. The meanings of the rows that lie in the end of a step (R77, R109, R116). Each is one action of the
end-of-step pass; it happens if it is the pass's next action (assumption log 4). -/

namespace Sys2Proof.Machine

/-- One action of the pass, if the next one is of the kind asked for; else the row has no effect. -/
def State.passEvent (wanted : PassAction → Bool) (s : State) : State :=
  if s.running then
    match (s.enter .pass).passNext.filter wanted with
    | some a => (s.enter .pass).passAct a
    | none => s
  else s

/-- DRAIN_COMPLETE: the step ends, with the drain test last (R17, R164). -/
def execDrainComplete (s : State) : Result :=
  .next (if s.running then (s.enter .pass).closeStep else s)

/-- CLAIM_DRIVE_AFTER_WAIT: the examination of the line at the end of a step (R109). -/
def execClaimDriveAfterWait (s : State) : Result :=
  .next
    (if s.running ∧ (s.enter .exam).ilu.claim.waiting ∧ (s.enter .exam).claimLine = false then
      (s.enter .exam).driveClaim
    else s)

/-- HEAD_TO_SEND_POINT (R79). -/
def execHeadToSendPoint (s : State) : Result :=
  .next (s.passEvent fun a => match a with
    | .moveHead _ => true
    | .enterStaged | .placeWaiting | .grant _ _ => false)

/-- The action grants a local head (R78; assumption log 17, DESIGN CHOICE, safe). -/
def PassAction.grantsHead : PassAction → Bool
  | .grant (.head _) _ => true
  | .grant (.inbound _) _ | .grant (.kept _) _ | .enterStaged | .placeWaiting | .moveHead _ => false

/-- LOCAL_REQUEST_GRANT (R78). -/
def execLocalRequestGrant (s : State) : Result := .next (s.passEvent PassAction.grantsHead)

/-- The action is an attempt of an Exchange lock fetch, kept or at the head (R99). -/
def PassAction.attemptsLock : PassAction → Bool
  | .grant (.kept _) _ => true
  | .grant (.head r) _ => r.kind == .lockRead
  | .grant (.inbound _) _ | .enterStaged | .placeWaiting | .moveHead _ => false

/-- EXCHANGE_LOCK_ATTEMPT (R99). -/
def execExchangeLockAttempt (s : State) : Result := .next (s.passEvent PassAction.attemptsLock)

/-- The action grants an inbound entry of a kind. -/
def PassAction.grantsInbound (k : MemoryKind) : PassAction → Bool
  | .grant (.inbound e) _ => e.kind == k
  | .grant (.head _) _ | .grant (.kept _) _ | .enterStaged | .placeWaiting | .moveHead _ => false

/-- INBOUND_READ_GRANT (R122). -/
def execInboundReadGrant (s : State) : Result := .next (s.passEvent (PassAction.grantsInbound .read))

/-- INBOUND_WRITE_GRANT (R123). -/
def execInboundWriteGrant (s : State) : Result := .next (s.passEvent (PassAction.grantsInbound .write))

/-- INBOUND_LOCK_READ_GRANT (R106). -/
def execInboundLockReadGrant (s : State) : Result := .next (s.passEvent (PassAction.grantsInbound .lockRead))

/-- INBOUND_UNLOCK_WRITE_GRANT (R107). -/
def execInboundUnlockWriteGrant (s : State) : Result := .next (s.passEvent (PassAction.grantsInbound .unlockWrite))

/-- STAGED_REQUEST_ENTRY (R35). -/
def execStagedRequestEntry (s : State) : Result := .next (s.passEvent fun a => a == .enterStaged)

/-- WAITING_LOCK_REQUEST_PLACEMENT (R96). -/
def execWaitingLockRequestPlacement (s : State) : Result := .next (s.passEvent fun a => a == .placeWaiting)

end Sys2Proof.Machine
end

