-- ==== Sys2Proof/Machine/TimerEvents.lean ====
section
/-! DEFINITION. The meanings of the expiry rows. Each is one expiry of the timer phase of a step at a tick boundary; it
happens if it is the next one due in the order of R164, and the faults of the phase are logged when the phase ends
(R141, assumption log 4). -/

namespace Sys2Proof.Machine

/-- One expiry in its place in the timer phase; without it the row has no effect. -/
def State.expiryEvent (t : TimerId) (s : State) : State :=
  if s.running ∧ (s.enter .timers).nextExpiry = some t then (s.enter .timers).expire t else s

/-- RESPONSE_TIMER_EXPIRY (R86). -/
def execResponseTimerExpiry (tag : Tag) (s : State) : Result := .next (s.expiryEvent (.response tag))

/-- SEND_POINT_RETRY_EXPIRY (R82). -/
def execSendPointRetryExpiry (s : State) : Result := .next (s.expiryEvent .sendPoint)

/-- LOCK_FETCH_RETRY_EXPIRY (R88). -/
def execLockFetchRetryExpiry (s : State) : Result := .next (s.expiryEvent .lockFetch)

/-- REPORT_RETRY_EXPIRY (R91). -/
def execReportRetryExpiry (s : State) : Result := .next (s.expiryEvent .report)

/-- BEAT_RETRY_EXPIRY (R73). -/
def execBeatRetryExpiry (s : State) : Result := .next (s.expiryEvent .beat)

/-- NODE_HOLD_EXPIRY (R108). -/
def execNodeHoldExpiry (index : DwIndex) (s : State) : Result := .next (s.expiryEvent (.nodeHold index))

/-- HOST_HOLD_EXPIRY (R103). -/
def execHostHoldExpiry (s : State) : Result := .next (s.expiryEvent .hostHold)

/-- EXCHANGE_FETCH_RETRY_EXPIRY (R99). -/
def execExchangeFetchRetryExpiry (s : State) : Result := .next (s.expiryEvent .kept)

/-- CLAIM_TIMER_EXPIRY (R110). -/
def execClaimTimerExpiry (s : State) : Result := .next (s.expiryEvent .claim)

/-- QUARANTINE_EXPIRY (R87). -/
def execQuarantineExpiry (tag : Tag) (s : State) : Result := .next (s.expiryEvent (.quarantine tag))

end Sys2Proof.Machine
end

