-- ==== Sys2Proof/Machine/Dispatch.lean ====
section
/-! DEFINITION. The dispatch: one arm per command, each one direct call of its meaning. -/

namespace Sys2Proof.Machine

/-- The effect of a command on everything but the queue. -/
def exec (i : Instr) (s : State) : Host.Outcome State Fault Refusal :=
  match i with
  | .nop => Sys2Proof.Machine.execNop s
  | .unknownCommandByte value => Sys2Proof.Machine.execUnknownCommandByte value s
  | .parameterByte value => Sys2Proof.Machine.execParameterByte value s
  | .csRelease => Sys2Proof.Machine.execCsRelease s
  | .dataByte value => Sys2Proof.Machine.execDataByte value s
  | .dataRead => Sys2Proof.Machine.execDataRead s
  | .setPage ps => Sys2Proof.Machine.execSetPage ps s
  | .setOffset ps => Sys2Proof.Machine.execSetOffset ps s
  | .setAddress ps => Sys2Proof.Machine.execSetAddress ps s
  | .direction ps => Sys2Proof.Machine.execDirection ps s
  | .windowLimit ps => Sys2Proof.Machine.execWindowLimit ps s
  | .nextLine => Sys2Proof.Machine.execNextLine s
  | .reload => Sys2Proof.Machine.execReload s
  | .clearCounters => Sys2Proof.Machine.execClearCounters s
  | .writeStream => Sys2Proof.Machine.execWriteStream s
  | .readStream => Sys2Proof.Machine.execReadStream s
  | .drain => Sys2Proof.Machine.execDrain s
  | .drainComplete => Sys2Proof.Machine.execDrainComplete s
  | .fetchLock => Sys2Proof.Machine.execFetchLock s
  | .storeUnlock ps => Sys2Proof.Machine.execStoreUnlock ps s
  | .releaseLock => Sys2Proof.Machine.execReleaseLock s
  | .mapWrite ps => Sys2Proof.Machine.execMapWrite ps s
  | .mapRead ps => Sys2Proof.Machine.execMapRead ps s
  | .gateWrite ps => Sys2Proof.Machine.execGateWrite ps s
  | .gateRead ps => Sys2Proof.Machine.execGateRead ps s
  | .set ps => Sys2Proof.Machine.execSet ps s
  | .reportIdentity levels sel => Sys2Proof.Machine.execReportIdentity levels sel s
  | .reportCounters sel => Sys2Proof.Machine.execReportCounters sel s
  | .reportFault sel => Sys2Proof.Machine.execReportFault sel s
  | .reportSummary sel => Sys2Proof.Machine.execReportSummary sel s
  | .reportEngine sel => Sys2Proof.Machine.execReportEngine sel s
  | .reportStatistics sel => Sys2Proof.Machine.execReportStatistics sel s
  | .reportSetting sel => Sys2Proof.Machine.execReportSetting sel s
  | .reportLock sel => Sys2Proof.Machine.execReportLock sel s
  | .reportTaken sel => Sys2Proof.Machine.execReportTaken sel s
  | .takeNotice => Sys2Proof.Machine.execTakeNotice s
  | .sendNotice ps => Sys2Proof.Machine.execSendNotice ps s
  | .sendRecall ps => Sys2Proof.Machine.execSendRecall ps s
  | .faultRelease => Sys2Proof.Machine.execFaultRelease s
  | .faultClear ps => Sys2Proof.Machine.execFaultClear ps s
  | .abort => Sys2Proof.Machine.execAbort s
  | .restartFirstByte => Sys2Proof.Machine.execRestartFirstByte s
  | .restart => Sys2Proof.Machine.execRestart s
  | .sleep => Sys2Proof.Machine.execSleep s
  | .wake => Sys2Proof.Machine.execWake s
  | .powerOnReset straps => Sys2Proof.Machine.execPowerOnReset straps s
  | .pinReset straps => Sys2Proof.Machine.execPinReset straps s
  | .resetInitializationEnd => Sys2Proof.Machine.execResetInitializationEnd s
  | .spanResetAssertion => Sys2Proof.Machine.execSpanResetAssertion s
  | .spanResetDeassertion => Sys2Proof.Machine.execSpanResetDeassertion s
  | .claimLineChange asserted => Sys2Proof.Machine.execClaimLineChange asserted s
  | .claimDriveAfterWait => Sys2Proof.Machine.execClaimDriveAfterWait s
  | .mapUpset page position => Sys2Proof.Machine.execMapUpset page position s
  | .tickBoundary => Sys2Proof.Machine.execTickBoundary s
  | .sendTurn => Sys2Proof.Machine.execSendTurn s
  | .inboundMemoryRequest p => Sys2Proof.Machine.execInboundMemoryRequest p s
  | .inboundNotice p => Sys2Proof.Machine.execInboundNotice p s
  | .inboundRecall p => Sys2Proof.Machine.execInboundRecall p s
  | .inboundFaultReport p => Sys2Proof.Machine.execInboundFaultReport p s
  | .beat p => Sys2Proof.Machine.execBeat p s
  | .sendPointReceipt r => Sys2Proof.Machine.execSendPointReceipt r s
  | .reportQueueReceipt r => Sys2Proof.Machine.execReportQueueReceipt r s
  | .beatReceipt r => Sys2Proof.Machine.execBeatReceipt r s
  | .abandonedOfferReceipt r => Sys2Proof.Machine.execAbandonedOfferReceipt r s
  | .orphanedReceipt r => Sys2Proof.Machine.execOrphanedReceipt r s
  | .responseTimerExpiry tag => Sys2Proof.Machine.execResponseTimerExpiry tag s
  | .sendPointRetryExpiry => Sys2Proof.Machine.execSendPointRetryExpiry s
  | .lockFetchRetryExpiry => Sys2Proof.Machine.execLockFetchRetryExpiry s
  | .reportRetryExpiry => Sys2Proof.Machine.execReportRetryExpiry s
  | .beatRetryExpiry => Sys2Proof.Machine.execBeatRetryExpiry s
  | .exchangeFetchRetryExpiry => Sys2Proof.Machine.execExchangeFetchRetryExpiry s
  | .nodeHoldExpiry index => Sys2Proof.Machine.execNodeHoldExpiry index s
  | .hostHoldExpiry => Sys2Proof.Machine.execHostHoldExpiry s
  | .claimTimerExpiry => Sys2Proof.Machine.execClaimTimerExpiry s
  | .quarantineExpiry tag => Sys2Proof.Machine.execQuarantineExpiry tag s
  | .headToSendPoint => Sys2Proof.Machine.execHeadToSendPoint s
  | .localRequestGrant => Sys2Proof.Machine.execLocalRequestGrant s
  | .exchangeLockAttempt => Sys2Proof.Machine.execExchangeLockAttempt s
  | .inboundReadGrant => Sys2Proof.Machine.execInboundReadGrant s
  | .inboundWriteGrant => Sys2Proof.Machine.execInboundWriteGrant s
  | .inboundLockReadGrant => Sys2Proof.Machine.execInboundLockReadGrant s
  | .inboundUnlockWriteGrant => Sys2Proof.Machine.execInboundUnlockWriteGrant s
  | .stagedRequestEntry => Sys2Proof.Machine.execStagedRequestEntry s
  | .waitingLockRequestPlacement => Sys2Proof.Machine.execWaitingLockRequestPlacement s
  | .resetEnd => Sys2Proof.Machine.execResetEnd s

end Sys2Proof.Machine
end

