-- ==== Sys2Proof/Safety.lean ====
section
/-! DEFINITION. What counts as a sound state, block by block, in the terms the manual uses for what is always true; and
the names in which statements about host commands are made. -/

namespace Sys2Proof.Machine

/-! ### Always-true relations of the manual -/

/-- The three relations that the bridge keeps true at all times (R21). -/
def Addressing.bounded (a : Addressing) : Prop :=
  a.low ≤ a.high ∧ (a.low ≤ a.pageReg ∧ a.pageReg ≤ a.high) ∧ (a.low ≤ a.pageCtr ∧ a.pageCtr ≤ a.high)

/-- A set OVERFLOW stands beside a hard captured fault, and the codes 00h and 1Fh are never logged (R137, R138). -/
def FaultLog.sound (l : FaultLog) : Prop :=
  (l.overflow = true → l.hard = true) ∧ l.summary.getLsbD 0 = false ∧ l.summary.getLsbD 31 = false

/-- Every bit that must be 0 is 0 in every setting (R151). -/
def State.settingsSound (s : State) : Prop := ∀ i : Fin 10, s.setting i &&& ~~~settingMask i = 0#16

/-- The report read pointer never passes the length, nor the length the buffer; COLLECTING is the state of holding a
collection, which still owes parameters (R3). -/
def HostPort.sound (h : HostPort) : Prop :=
  (h.reportPointer ≤ h.reportLength ∧ h.reportLength ≤ 16) ∧
    (h.decoder = .collecting ↔ h.collected.isSome = true) ∧
    ∀ c, h.collected = some c → 1 ≤ c.owed ∧ c.owed + c.params.length ≤ 9

/-- Exchange Memory is in its canonical form, lists no byte that does not exist, and the arbiter's count lies in 0 to 4
(R112, R114). -/
def Exchange.sound (x : Exchange) : Prop :=
  x.mem.wf = true ∧ (∀ c ∈ x.mem, c.1 < 2048) ∧ x.run ≤ 4

/-- At most 16 records, at most 14 of them NOTICE, and WITHDRAWN only beside a taken NOTICE (R125, R126, R127). -/
def Notices.sound (n : Notices) : Prop :=
  n.queue.length ≤ 16 ∧ n.queue.countP NoticeRecord.isNotice ≤ 14 ∧
    (n.withdrawn = true → n.taken.any NoticeRecord.isNotice = true)

/-- The number of front placements in the queue (R77). -/
def Engine.fronts (e : Engine) : Nat := e.queue.countP QueueEntry.front

/-- The number of BUSY tags. -/
def Engine.busyTags (e : Engine) : Nat := e.tags.toList.countP TagState.isBusy

/-- Every front placement stands ahead of every request that entered at the tail. -/
def frontsFirst (q : List QueueEntry) : Prop := q.Pairwise fun a b => b.front = true → a.front = true

/-- The Outbound Queue's order and bounds (R77). -/
def Engine.queueSound (e : Engine) : Prop :=
  frontsFirst e.queue ∧ e.fronts + e.busyTags ≤ 4 ∧ e.queue.countP (fun q => !q.front) ≤ 8

/-- The Lock Table holds at most 4 entries, no two for one doubleword (R105). -/
def tableSound (t : List LockEntry) : Prop := t.length ≤ 4 ∧ t.Pairwise fun a b => a.index ≠ b.index

/-- The report queue holds at most 2 entries and the Inbound Queue at most 4 (R90, R121). -/
def State.boundsSound (s : State) : Prop := s.engine.reports.length ≤ 2 ∧ s.inbound.queue.length ≤ 4

/-- Faults stand unlogged only inside the timer phase and the end-of-step pass, each one batch (R141). -/
def State.batchSound (s : State) : Prop :=
  s.raised = [] ∨ s.sched.phase = .timers ∨ s.sched.phase = .pass

/-! ### Terms of statements about host commands -/

/-- The state in which the step handles a host cycle. -/
def State.atHost (s : State) : State := s.enter .host

/-- The bridge runs, is awake and its BUSY bit is clear; no collection, open pack or unlogged fault is there for the
prelude to deal with. -/
def State.readyForCommand (e : State) : Prop :=
  e.running = true ∧ e.power.asleep = false ∧ e.streams.staging = none ∧ e.streams.pack = none ∧
    e.host.collected = none ∧ e.host.decoder ≠ .collecting ∧ e.raised = []

/-- The state after the prelude of an accepted command byte when there is no pack and no collection: the RESTART flag
and the IDLE latch are clear, the decoder is IDLE, and the end of READ STREAM has invalidated the Read Buffers
(R5, R12). -/
def State.started (e : State) : State :=
  { e with
    pins := { e.pins with selected := true }
    host := { e.host with halfSeen := false, idleLatch := false, decoder := .idle }
    streams :=
      if e.host.decoder = .readStream then
        { e.streams with current := .empty, ahead := .empty, deferred := none }
      else e.streams }

/-- The state after a host cycle that changes nothing else: CS# is asserted and the RESTART flag clear (R12). -/
def State.touched (e : State) : State :=
  { e with pins := { e.pins with selected := true }, host := { e.host with halfSeen := false } }

/-- The state with one more fault logged (R140). -/
def State.logged (f : FaultRecord) (s : State) : State := { s with log := s.log.log f }

/-- The state with a byte driven on D0 to D7 (R14). -/
def State.drove (b : Byte) (s : State) : State := { s with out := { s.out with hostData := some b } }

/-- The state in which a command owes parameters (R4). -/
def State.owing (c : Command) (n : Nat) (s : State) : State :=
  { s with host := { s.host with decoder := .collecting
                                 collected := some { command := c, owed := n, params := [], lapsed := false } } }

/-- The state with one more fault in the batch that the step has not logged yet (R141). -/
def State.batched (f : FaultRecord) (s : State) : State := { s with raised := s.raised ++ [f] }

/-- The state with one more request at the tail of the Outbound Queue (R77). -/
def State.queued (r : Request) (s : State) : State :=
  { s with engine := { s.engine with
      queue := s.engine.queue ++
        [{ req := r, front := false, rereadMark := false, window := .fresh, waitTick := false }] } }

/-- The WRITE that a pack becomes when it is sealed onto a SPAN page (R34). -/
def MapEntry.packRequest (m : MapEntry) (p : Pack) (serial : Nat) : Request :=
  { serial := serial, origin := .hostWrite, kind := .write
    dest := .span (m.frame ++ BitVec.ofNat 8 (32 * p.block.val + p.start)), words := p.words
    enables := ((p.bytes.toList.drop p.start).take (4 * p.words)).map Option.isSome
    data := ((p.bytes.toList.drop p.start).take (4 * p.words)).map fun b => b.getD 0
    note := none, confirm := m.confirm, reread := m.reread
    window := some (p.page, BitVec.ofNat 8 (32 * p.block.val + p.lowest)), abortRelease := false }

/-- The state with the next serial number taken. -/
def State.numbered (s : State) : State := { s with sched := { s.sched with serial := s.sched.serial + 1 } }

/-- The state with a report loaded (R18). -/
def State.reporting (bytes : List Byte) (s : State) : State := { s with host := s.host.load bytes }

end Sys2Proof.Machine
end

