-- ==== Sys2Proof/Certificates/Slice0/Obligations.lean ====
section
/-! DEFINITION. The statements for the provers. In each, `e` is the state in which the step handles the event: the step in
progress goes on to the event's phase, or ends so that another begins (R164). -/

open Sys2Proof Sys2Proof.Machine

/-! ### The queue, reset and time -/

/-- A step takes the command at the front of the queue and is that command's effect on the state with the queue's rest; on
an empty queue it ends the processing step in progress, and idles if there is none (assumption log 4). Every command has
its effect in every state: none stops the machine (assumption log 3). -/
def Obligations.StepRunsTheFrontCommand : Prop :=
  (∀ (c : Instr) (rest : List Instr) (s : State), step (s.withPending (c :: rest)) = exec c (s.withPending rest)) ∧
    (∀ s : State, s.pending = [] → step s = .next (s.enter .between)) ∧
    (∀ s : State, s.pending = [] → s.sched.phase = .between → step s = .next s) ∧
    ∀ (c : Instr) (s : State), ∃ t, exec c s = .next t

/-- What reset leaves, register by register: R3, R21, R35, R36, R76, R95, R109, R112, R114, R117, R121, R126, R138,
R151. -/
def Obligations.ResetLeavesTheManualsValues : Prop :=
  State.reset.host.decoder = .idle ∧ State.reset.host.collected = none ∧
    (∀ i : Fin 16, State.reset.host.report.get i = 0x00#8) ∧ State.reset.host.reportLength = 0 ∧
    State.reset.host.reportPointer = 0 ∧ State.reset.host.halfSeen = false ∧ State.reset.host.drainPending = false ∧
    State.reset.host.idleLatch = false ∧
    State.reset.addr = { pageReg := 0, pageCtr := 0, offReg := 0, offCtr := 0, low := 0, high := 255#8, offDec := false,
                         pageDec := false, pageMajor := false, pageEdge := false, offEdge := false } ∧
    State.reset.streams.pack = none ∧ State.reset.streams.staging = none ∧ State.reset.streams.deferred = none ∧
    State.reset.streams.current.state = .empty ∧ State.reset.streams.ahead.state = .empty ∧
    (∀ p : Byte, State.reset.mapEntry p = { flags := 0, frame := 0, check := 0 }) ∧
    State.reset.engine.queue = [] ∧ State.reset.engine.sendPoint = none ∧ State.reset.engine.abandoned = false ∧
    State.reset.engine.outstanding = none ∧ (∀ t : Tag, State.reset.tag t = .free) ∧ State.reset.engine.reports = [] ∧
    State.reset.engine.retries = 0 ∧ State.reset.engine.strays = 0 ∧
    State.reset.engine.reportHead = { offer := .eligible, window := { timer := none, expired := false } } ∧
    State.reset.ilu.lock.state = .none ∧ State.reset.ilu.lock.target = none ∧ State.reset.ilu.lock.status = .good ∧
    State.reset.ilu.lock.confirm = false ∧ State.reset.ilu.lock.page = 0x00#8 ∧ State.reset.ilu.lock.offset = 0x00#8 ∧
    State.reset.ilu.lock.current = none ∧ State.reset.ilu.lock.hold = none ∧
    (∀ i : Fin 8, State.reset.ilu.lock.data.get i = 0x00#8) ∧ State.reset.ilu.waiting = none ∧
    State.reset.ilu.kept = none ∧ State.reset.ilu.table = [] ∧ State.reset.ilu.claim.driving = false ∧
    State.reset.ilu.claim.heldCount = 0 ∧ State.reset.ilu.claim.waiting = false ∧ State.reset.ilu.claim.used = false ∧
    State.reset.ilu.claim.timer = none ∧
    (∀ a, State.reset.xmm.mem.read a = 0x00#8) ∧ State.reset.xmm.run = 0 ∧
    (∀ i : Fin 8, State.reset.gateEntry i =
      { enabled := false, deny := false, kinds := 0, base := 0, mask := 0, nodes := 0 }) ∧
    State.reset.inbound.queue = [] ∧ State.reset.inbound.beats = [] ∧
    State.reset.inbound.head = { offer := .eligible, window := { timer := none, expired := false } } ∧
    State.reset.notices.queue = [] ∧ State.reset.notices.arrival = 0 ∧ State.reset.notices.taken = none ∧
    State.reset.notices.withdrawn = false ∧ State.reset.log.capture = none ∧
    State.reset.log.overflow = false ∧ State.reset.log.summary = 0 ∧ State.reset.log.mended = 0 ∧
    State.reset.settings.toList =
      [0x0001#16, 0x000B#16, 0x000B#16, 0x0009#16, 0x0763#16, 0x0000#16, 0x0000#16, 0xFFFF#16, 0x0002#16, 0x0000#16] ∧
    State.reset.power.asleep = false ∧ State.reset.statusByte = 0x00#8

/-- R149 as the model reads it, time being a count of tick boundaries (assumption log 9, the model's choice): a timer
started with code 0 never expires; with code n from 1 to 15 it expires 2 to the power n − 1 boundaries on if it is started
in a step at a boundary, one boundary later if between two, and never in the step that started it. At a tick boundary
where no timer is due, refused packets and waiting requests become eligible or ready, and nothing else changes (R148,
R149). -/
def Obligations.TimersExpireAtTickBoundaries : Prop :=
  (∀ (s : State) (c : LimitCode) (tick : Nat),
      ((s.startTimer c).isDue tick = true ↔
        c ≠ 0 ∧ s.sched.tick + (if s.sched.onGrid then 0 else 1) + 2 ^ (c.toNat - 1) ≤ tick) ∧
      (s.startTimer c).isDue s.sched.tick = false) ∧
    (∀ s : State, s.running = true → s.sched.phase = .between → s.raised = [] → s.startTimers.nextExpiry = none →
        exec .tickBoundary s = .next
          { s with
            sched := { s.sched with phase := .packets, tick := s.sched.tick + 1, onGrid := true }
            engine := { s.engine with
              queue := s.engine.queue.map fun q => { q with waitTick := false }
              sendPoint := s.engine.sendPoint.map fun p =>
                { p with offer := if p.offer = .waiting then .eligible else p.offer }
              reportHead := { s.engine.reportHead with
                offer := if s.engine.reportHead.offer = .waiting then .eligible else s.engine.reportHead.offer } }
            ilu := { s.ilu with kept := s.ilu.kept.map fun k => { k with ready := true } }
            inbound := { s.inbound with head := { s.inbound.head with
              offer := if s.inbound.head.offer = .waiting then .eligible else s.inbound.head.offer } } })

/-! ### Addressing commands -/

/-- SET PAGE, SET OFFSET and SET ADDRESS at a ready bridge, with everything they leave alone (R23, R24, R25). -/
def Obligations.PageAndOffsetAreLoaded : Prop :=
  ∀ (s e : State) (page offset : Byte), e = s.atHost → e.readyForCommand →
    exec (.setPage [page]) s = .next
      (if e.addr.low ≤ page ∧ page ≤ e.addr.high then
        { e.started with addr := { e.addr with pageReg := page, pageCtr := page, pageEdge := false } }
      else e.started.logged (hostFault .paramRange)) ∧
    exec (.setOffset [offset]) s = .next
      { e.started with addr := { e.addr with offReg := offset, offCtr := offset, offEdge := false } } ∧
    exec (.setAddress [page, offset]) s = .next
      (if e.addr.low ≤ page ∧ page ≤ e.addr.high then
        { e.started with
          addr := { e.addr with pageReg := page, pageCtr := page, pageEdge := false
                                offReg := offset, offCtr := offset, offEdge := false } }
      else e.started.logged (hostFault .paramRange))

/-- DIRECTION and WINDOW LIMIT at a ready bridge, with everything they leave alone (R26, R27). -/
def Obligations.DirectionAndLimitsAreLoaded : Prop :=
  ∀ (s e : State) (d low high : Byte), e = s.atHost → e.readyForCommand →
    exec (.direction [d]) s = .next
      (if d.extractLsb' 3 5 = 0#5 then
        { e.started with
          addr := { e.addr with offDec := d.getLsbD 0, pageDec := d.getLsbD 1, pageMajor := d.getLsbD 2 } }
      else e.started.logged (hostFault .paramRange)) ∧
    exec (.windowLimit [low, high]) s = .next
      (if high < low then e.started.logged (hostFault .paramRange)
      else if low ≤ e.addr.pageReg ∧ e.addr.pageReg ≤ high ∧ low ≤ e.addr.pageCtr ∧ e.addr.pageCtr ≤ high then
        { e.started with addr := { e.addr with low := low, high := high, pageEdge := false } }
      else
        { e.started with
          addr := { e.addr with low := low, high := high, pageEdge := false, pageReg := low, pageCtr := low } })

/-- NEXT LINE, RELOAD and CLEAR COUNTERS at a ready bridge, with everything they leave alone (R28, R29, R30). -/
def Obligations.CountersAreReloaded : Prop :=
  ∀ s e : State, e = s.atHost → e.readyForCommand →
    exec .reload s = .next
      { e.started with
        addr := { e.addr with pageCtr := e.addr.pageReg, offCtr := e.addr.offReg, pageEdge := false, offEdge := false } } ∧
    exec .clearCounters s = .next
      { e.started with
        addr := { e.addr with pageReg := e.addr.low, pageCtr := e.addr.low, offReg := 0, offCtr := 0
                              pageEdge := false, offEdge := false } } ∧
    (e.addr.pageMajor = false →
      exec .nextLine s = .next
        (if e.addr.pageCtr = (if e.addr.pageDec then e.addr.low else e.addr.high) then
          { e.started with addr := { e.addr with offCtr := e.addr.offReg, offEdge := false, pageEdge := true } }
        else
          { e.started with
            addr := { e.addr with
              offCtr := e.addr.offReg, offEdge := false
              pageCtr := if e.addr.pageDec then e.addr.pageCtr - 1 else e.addr.pageCtr + 1 } })) ∧
    (e.addr.pageMajor = true →
      exec .nextLine s = .next
        (if e.addr.offCtr = (if e.addr.offDec then 0#8 else 255#8) then
          { e.started with addr := { e.addr with pageCtr := e.addr.pageReg, pageEdge := false, offEdge := true } }
        else
          { e.started with
            addr := { e.addr with
              pageCtr := e.addr.pageReg, pageEdge := false
              offCtr := if e.addr.offDec then e.addr.offCtr - 1 else e.addr.offCtr + 1 } }))

/-! ### The prelude, streams and drains -/

/-- At a ready bridge NOP has no effect beyond the prelude, an unknown command byte logs CMD_UNKNOWN, and WRITE STREAM
only changes the decoder. In WRITE STREAM, NOP seals the open pack of a SPAN page that may be written: one WRITE, at the
translated address of the span, and the decoder IDLE. The WRITE enters the queue at its tail; with 8 requests there it
enters the staging slot, which sets BUSY (R5, R9, R10, R31, R34, R35, R50). -/
def Obligations.NopRunsThePrelude : Prop :=
  (∀ (s e : State) (b : Byte), e = s.atHost → e.readyForCommand →
      exec .nop s = .next e.started ∧
      (decodeCommandByte b = none →
        exec (.unknownCommandByte b) s = .next (e.started.logged (hostFault .cmdUnknown))) ∧
      exec .writeStream s = .next { e.started with host := { e.started.host with decoder := .writeStream } }) ∧
    (∀ (s e : State) (p : Pack) (r : Request), e = s.atHost → e.running = true → e.power.asleep = false →
        e.streams.staging = none → e.host.collected = none → e.host.decoder = .writeStream → e.raised = [] →
        e.streams.pack = some p → (e.mapEntry p.page).classify = .clean → (e.mapEntry p.page).valid = true →
        (e.mapEntry p.page).mayWrite = true → (e.mapEntry p.page).toExchange = false →
        r = (e.mapEntry p.page).packRequest p e.sched.serial →
        (e.engine.queue.length < 8 →
          exec .nop s = .next
            (State.queued r (State.numbered { e.started with streams := { e.streams with pack := none } }))) ∧
        (8 ≤ e.engine.queue.length →
          ∃ t, exec .nop s = .next t ∧ t.busy = true ∧
            t = State.numbered { e.started with streams := { e.streams with pack := none, staging := some r } }))

/-- The span of a sealed pack is 1, 2, 4 or 8 words, naturally aligned, and holds every enabled position (R34). -/
def Obligations.SealedSpanCoversThePack : Prop :=
  ∀ p : Pack, (∃ i : Fin 32, (p.bytes.get i).isSome = true) →
    (p.words = 1 ∨ p.words = 2 ∨ p.words = 4 ∨ p.words = 8) ∧ p.start % (4 * p.words) = 0 ∧
      p.start + 4 * p.words ≤ 32 ∧
      (∀ i : Fin 32, (p.bytes.get i).isSome = true → p.start ≤ i.val ∧ i.val < p.start + 4 * p.words) ∧
      ∀ n start : Nat, (n = 1 ∨ n = 2 ∨ n = 4 ∨ n = 8) → start % (4 * n) = 0 →
        (∀ i : Fin 32, (p.bytes.get i).isSome = true → start ≤ i.val ∧ i.val < start + 4 * n) → p.words ≤ n

/-- READ STREAM at a ready bridge: a demand fetch of the current unit into the current buffer, or a FAILED buffer and the
fault where the entry is not VALID. The fetch enters the queue, with 8 requests there the staging slot, and it becomes the
deferred request where the prelude has just sealed a pack into the staging slot (R35, R37, R38). -/
def Obligations.ReadStreamFetchesTheCurrentUnit : Prop :=
  ∀ (s e : State) (m : MapEntry) (first : Byte) (r : Nat → Request), e = s.atHost → m = e.mapEntry e.addr.pageCtr →
    first = (if e.addr.pageMajor then e.addr.offCtr &&& 0xFC#8 else e.addr.offCtr &&& 0xE0#8) → m.classify = .clean →
    (∀ n, r n =
      { serial := n, origin := .hostFetch, kind := .read, dest := .span (m.frame ++ first)
        words := if e.addr.pageMajor then 1 else 8
        enables := [], data := [], note := none, confirm := m.confirm, reread := m.reread
        window := some (e.addr.pageCtr, e.addr.offCtr), abortRelease := false }) →
    (e.readyForCommand → m.valid = false →
      exec .readStream s = .next
        (State.logged (mapFault .mapInvalid .read e.addr.pageCtr e.addr.offCtr)
          { e.started with
            host := { e.started.host with decoder := .readStream }
            streams := { e.streams with
              deferred := none
              current := { state := .failed, page := e.addr.pageCtr, first := first, opened := false }
              ahead := .empty } })) ∧
    (e.readyForCommand → m.valid = true → m.mayRead = true → m.toExchange = false → e.engine.queue.length < 8 →
      exec .readStream s = .next
        (State.queued (r e.sched.serial)
          (State.numbered
            { e.started with
              host := { e.started.host with decoder := .readStream }
              streams := { e.streams with
                deferred := none
                current :=
                  { state := .fetching e.sched.serial, page := e.addr.pageCtr, first := first, opened := false }
                ahead := .empty } }))) ∧
    (e.readyForCommand → m.valid = true → m.mayRead = true → m.toExchange = false → 8 ≤ e.engine.queue.length →
      exec .readStream s = .next
        (State.numbered
          { e.started with
            host := { e.started.host with decoder := .readStream }
            streams := { e.streams with
              deferred := none, staging := some (r e.sched.serial)
              current := { state := .fetching e.sched.serial, page := e.addr.pageCtr, first := first, opened := false }
              ahead := .empty } })) ∧
    (∀ p : Pack, e.running = true → e.power.asleep = false → e.streams.staging = none → e.host.collected = none →
      e.host.decoder = .writeStream → e.raised = [] → e.streams.pack = some p →
      (e.mapEntry p.page).classify = .clean → (e.mapEntry p.page).valid = true → (e.mapEntry p.page).mayWrite = true →
      (e.mapEntry p.page).toExchange = false → m.valid = true → m.mayRead = true → m.toExchange = false →
      8 ≤ e.engine.queue.length →
      exec .readStream s = .next
        (State.numbered
          (State.numbered
            { e.started with
              host := { e.started.host with decoder := .readStream }
              streams :=
                { pack := none, staging := some ((e.mapEntry p.page).packRequest p e.sched.serial)
                  deferred := some (r (e.sched.serial + 1))
                  current :=
                    { state := .fetching (e.sched.serial + 1), page := e.addr.pageCtr, first := first, opened := false }
                  ahead := .empty } })))

/-- The drain condition is that of R17. DRAIN at a ready bridge sets the IDLE latch at once where it holds and the
drain-pending flag where it does not; a step in its pass with nothing left to do ends, and sets the latch for a pending
drain (R16, R17). -/
def Obligations.DrainsCompleteWhenNothingIsLeft : Prop :=
  (∀ s : State, s.drained = true ↔
      s.streams.pack = none ∧ s.streams.staging = none ∧ s.engine.queue = [] ∧ s.engine.sendPoint = none ∧
        ∀ (t : Tag) (b : BusyTag), s.tag t ≠ .busy b) ∧
    (∀ s e : State, e = s.atHost → e.readyForCommand →
        exec .drain s = .next
          { e.started with host := { e.started.host with drainPending := !e.drained, idleLatch := e.drained } }) ∧
    (∀ s : State, s.running = true → s.sched.phase = .pass → s.raised = [] → s.passNext = none →
        exec .drainComplete s = .next
          { s with
            sched := { s.sched with phase := .between, onGrid := false, grants := 0 }
            host := if s.host.drainPending ∧ s.drained = true then
                { s.host with drainPending := false, idleLatch := true }
              else s.host })

/-! ### Host cycles: discards, refusals, collections and data bytes -/

/-- While the staging slot is occupied a written byte other than ABORT and RESTART on the command side is discarded with
OVERRUN and clears the RESTART flag, and nothing else happens (R10). -/
def Obligations.BusyDiscardsWrittenBytes : Prop :=
  ∀ (s e : State) (b : Byte), e = s.atHost → e.running = true → e.raised = [] → e.streams.staging.isSome = true →
    (b ≠ 0x3E#8 → b ≠ 0x3F#8 →
      exec (.parameterByte b) s = .next (e.touched.logged (hostFault .overrun))) ∧
    exec (.dataByte b) s = .next (e.touched.logged (hostFault .overrun))

/-- The status byte and ATN of a running bridge, bit by bit; in reset ATN is deasserted (R15, R135). -/
def Obligations.StatusAndAttentionFollowTheState : Prop :=
  ∀ s : State,
    (s.running = false → s.atn = false) ∧
    (s.running = true →
      (s.atn = true ↔
        ((s.setting 0).getLsbD 0 = true ∧ ∃ f, s.log.capture = some f ∧ f.code.hard = true) ∨
          ((s.setting 0).getLsbD 1 = true ∧ ∃ f, s.log.capture = some f ∧ f.code.hard = false) ∨
          ((s.setting 0).getLsbD 2 = true ∧ ∃ r ∈ s.notices.queue, (s.setting 0).toNat / 16 % 4 ≤ r.level.toNat) ∨
          ((s.setting 0).getLsbD 3 = true ∧ s.host.idleLatch = true)) ∧
      s.statusByte.getLsbD 7 = s.streams.staging.isSome ∧
      (s.host.decoder ≠ .readStream ∧ s.host.decoder ≠ .report → s.statusByte.getLsbD 6 = false) ∧
      (s.host.decoder = .report →
        (s.statusByte.getLsbD 6 = true ↔ s.host.reportPointer < s.host.reportLength)) ∧
      (s.host.decoder = .readStream →
        (s.statusByte.getLsbD 6 = true ↔ (∃ data, s.streams.current.state = .valid data) ∧
          s.streams.current.page = s.addr.pageCtr ∧
          s.streams.current.first =
            (if s.addr.pageMajor then s.addr.offCtr &&& 0xFC#8 else s.addr.offCtr &&& 0xE0#8))) ∧
      s.statusByte.getLsbD 5 = (s.addr.pageEdge || s.addr.offEdge) ∧ s.statusByte.getLsbD 4 = s.atn ∧
      (s.statusByte.getLsbD 3 = true ↔ ∃ f, s.log.capture = some f ∧ f.code.hard = true) ∧
      s.statusByte.getLsbD 2 = s.power.asleep ∧
      s.statusByte &&& 0x03#8 =
        (match s.host.decoder with
          | .idle | .collecting => 0x00#8
          | .writeStream => 0x01#8
          | .readStream => 0x02#8
          | .report => 0x03#8))

/-- The command byte of a command with parameters puts a ready bridge in COLLECTING with the count of section 1.3 owed,
MAP WRITE 7 with CHECK SUPPLY on and 6 with it off. A parameter byte of an open collection is appended; the last one takes
the decoder to IDLE and executes the command, here SET OFFSET (R4, R7). -/
def Obligations.ParametersAreOwedAndCollected : Prop :=
  (∀ s e : State, e = s.atHost → e.readyForCommand →
      ∀ t ∈ [(Instr.setPage [], Command.setPage, 1), (.setOffset [], .setOffset, 1), (.setAddress [], .setAddress, 2),
          (.direction [], .direction, 1), (.windowLimit [], .windowLimit, 2), (.storeUnlock [], .storeUnlock, 9),
          (.mapWrite [], .mapWrite, if e.checkSupply = true then 7 else 6), (.mapRead [], .mapRead, 1),
          (.gateWrite [], .gateWrite, 7), (.gateRead [], .gateRead, 1), (.set [], .set, 3),
          (.reportIdentity s.pins.strapLevels none, .report, 2),
          (.reportCounters none, .report, 2), (.reportFault none, .report, 2), (.reportSummary none, .report, 2),
          (.reportEngine none, .report, 2), (.reportStatistics none, .report, 2), (.reportSetting none, .report, 2),
          (.reportLock none, .report, 2), (.reportTaken none, .report, 2), (.sendNotice [], .sendNotice, 4),
          (.sendRecall [], .sendRecall, 4), (.faultClear [], .faultClear, 1)],
        exec t.1 s = .next (e.started.owing t.2.1 t.2.2)) ∧
    (∀ (s e : State) (c : Collected) (b : Byte), e = s.atHost → e.running = true → e.streams.staging = none →
        e.raised = [] → e.host.collected = some c → c.lapsed = false →
        (2 ≤ c.owed →
          exec (.parameterByte b) s = .next
            { e.touched with
              host := { e.touched.host with
                collected := some { c with owed := c.owed - 1, params := c.params ++ [b] } } }) ∧
        (c.owed = 1 → c.command = .setOffset → c.params = [] →
          exec (.parameterByte b) s = .next
            { e.touched with
              host := { e.touched.host with decoder := .idle, collected := none }
              addr := { e.addr with offReg := b, offCtr := b, offEdge := false } }))

/-- A release of CS# makes an open collection lapse, and a later NOP cancels it with PARAM_CUT: nothing of it is kept but
the page of a SET ADDRESS that lies within the limits (R2, R8). -/
def Obligations.ReleasedCollectionsAreCancelled : Prop :=
  (∀ s e : State, e = s.atHost →
    exec .csRelease s = .next
      { e with
        pins := { e.pins with selected := false }
        host := { e.host with collected := e.host.collected.map fun c => { c with lapsed := true } } }) ∧
    ∀ (s e : State) (c : Collected), e = s.atHost → e.running = true → e.power.asleep = false →
      e.streams.staging = none → e.streams.pack = none → e.raised = [] → e.host.decoder = .collecting →
      e.host.collected = some c → c.lapsed = true →
      (c.command ≠ .setAddress ∨ c.params = [] →
        exec .nop s = .next
          (State.logged (hostFault .paramCut)
            { e.started with host := { e.started.host with collected := none } })) ∧
      ∀ (page : Byte) (rest : List Byte), c.command = .setAddress → c.params = page :: rest →
        exec .nop s = .next
          (State.logged (hostFault .paramCut)
            { e.started with
              host := { e.started.host with collected := none }
              addr := if e.addr.low ≤ page ∧ page ≤ e.addr.high then { e.addr with pageReg := page } else e.addr })

/-- A counter at its lock value stays there and sets its edge flag; another moves by one in its direction. A data byte
outside WRITE STREAM is discarded with PROTOCOL. In WRITE STREAM it opens a pack, or joins the open pack of its page and
block, at its position in the block; an open pack of another page or block is sealed first, and a pack whose 32 positions
are all enabled is sealed at once. The major counter then steps (R13, R22, R32, R34). -/
def Obligations.DataBytesAreMergedAndStep : Prop :=
  (∀ a : Addressing, a.stepMajor =
      if a.pageMajor then
        if a.pageCtr = (if a.pageDec then a.low else a.high) then { a with pageEdge := true }
        else { a with pageCtr := if a.pageDec then a.pageCtr - 1 else a.pageCtr + 1 }
      else if a.offCtr = (if a.offDec then 0#8 else 255#8) then { a with offEdge := true }
      else { a with offCtr := if a.offDec then a.offCtr - 1 else a.offCtr + 1 }) ∧
    (∀ (s e : State) (b : Byte), e = s.atHost → e.running = true → e.streams.staging = none → e.raised = [] →
        (e.host.decoder ≠ .writeStream → exec (.dataByte b) s = .next (e.touched.logged (hostFault .protocol))) ∧
        (e.host.decoder = .writeStream → e.streams.pack = none →
          exec (.dataByte b) s = .next
            { e.touched with
              streams := { e.streams with
                pack := some { page := e.addr.pageCtr, block := blockOf e.addr.offCtr
                               bytes := (Vector.replicate 32 none).set (positionOf e.addr.offCtr).val (some b) } }
              addr := e.addr.stepMajor }) ∧
        ∀ p : Pack, e.host.decoder = .writeStream → e.streams.pack = some p → p.page = e.addr.pageCtr →
          p.block = blockOf e.addr.offCtr →
          (∃ i : Fin 32, i ≠ positionOf e.addr.offCtr ∧ p.bytes.get i = none) →
          exec (.dataByte b) s = .next
            { e.touched with
              streams := { e.streams with
                pack := some { p with bytes := p.bytes.set (positionOf e.addr.offCtr).val (some b) } }
              addr := e.addr.stepMajor }) ∧
    ∀ (s e : State) (b : Byte) (p : Pack), e = s.atHost → e.running = true → e.streams.staging = none → e.raised = [] →
      e.host.decoder = .writeStream → e.streams.pack = some p → (e.mapEntry p.page).classify = .clean →
      (e.mapEntry p.page).valid = true → (e.mapEntry p.page).mayWrite = true →
      (e.mapEntry p.page).toExchange = false → e.engine.queue.length < 8 →
      (¬(p.page = e.addr.pageCtr ∧ p.block = blockOf e.addr.offCtr) →
        exec (.dataByte b) s = .next
          (State.queued ((e.mapEntry p.page).packRequest p e.sched.serial)
            (State.numbered
              { e.touched with
                streams := { e.streams with
                  pack := some { page := e.addr.pageCtr, block := blockOf e.addr.offCtr
                                 bytes := (Vector.replicate 32 none).set (positionOf e.addr.offCtr).val (some b) } }
                addr := e.addr.stepMajor }))) ∧
      (p.page = e.addr.pageCtr → p.block = blockOf e.addr.offCtr →
        (∀ i : Fin 32, i ≠ positionOf e.addr.offCtr → (p.bytes.get i).isSome = true) →
        exec (.dataByte b) s = .next
          (State.queued
            ((e.mapEntry p.page).packRequest
              { p with bytes := p.bytes.set (positionOf e.addr.offCtr).val (some b) } e.sched.serial)
            (State.numbered
              { e.touched with streams := { e.streams with pack := none }, addr := e.addr.stepMajor })))

/-- A data read: 00h with PROTOCOL in IDLE and COLLECTING; in REPORT the byte at the pointer, or 00h with UNDERRUN past
the end; in READ STREAM 00h with UNDERRUN while FETCHING or EMPTY, and else the byte of a VALID unit, or 00h of a FAILED
one, with a step. The first read of a VALID unit makes the look-ahead of the next unit where the page has PREFETCH. A step
that leaves the unit moves on to the look-ahead buffer, or makes a demand fetch where that is EMPTY (R14, R20, R38, R40,
R41, R42). -/
def Obligations.DataReadsAreServed : Prop :=
  (∀ s e : State, e = s.atHost → e.running = true → e.raised = [] →
    (e.host.decoder = .idle ∨ e.host.decoder = .collecting →
      exec .dataRead s = .next ((e.touched.logged (hostFault .protocol)).drove 0x00#8)) ∧
    (∀ i : Fin 16, e.host.decoder = .report → e.host.reportPointer = i.val → i.val < e.host.reportLength →
      exec .dataRead s = .next
        (State.drove (e.host.report.get i)
          { e.touched with host := { e.touched.host with reportPointer := i.val + 1 } })) ∧
    (e.host.decoder = .report → e.host.reportLength ≤ e.host.reportPointer →
      exec .dataRead s = .next ((e.touched.logged (hostFault .underrun)).drove 0x00#8)) ∧
    (e.host.decoder = .readStream →
      ((∃ n, e.streams.current.state = .fetching n) ∨ e.streams.current.state = .empty) →
      exec .dataRead s = .next
        (State.drove 0x00#8
          (e.touched.logged
            { code := .underrun, origin := .window, tag := none, kind := none, address := none
              page := some e.addr.pageCtr, offset := some e.addr.offCtr, peer := none })))) ∧
  ∀ (s e : State) (next : Addressing) (stays : Prop) (byte : Byte) (cur : ReadBuffer), e = s.atHost → e.running = true →
    e.raised = [] → e.host.decoder = .readStream → next = e.addr.stepMajor →
    (stays ↔ if e.addr.pageMajor = true then next.pageCtr = e.addr.pageCtr
      else blockOf next.offCtr = blockOf e.addr.offCtr) →
    cur = { e.streams.current with opened := true } →
    ((e.streams.current.opened = true ∧ ∃ data, e.streams.current.state = .valid data ∧
        byte = data.getD (e.addr.offCtr - e.streams.current.first).toNat 0x00#8) ∨
      (e.streams.current.state = .failed ∧ byte = 0x00#8) →
      (stays →
        exec .dataRead s = .next
          (State.drove byte { e.touched with addr := next, streams := { e.streams with current := cur } })) ∧
      (¬stays → e.streams.ahead.state ≠ .empty →
        exec .dataRead s = .next
          (State.drove byte
            { e.touched with
              addr := next
              streams := { e.streams with current := { e.streams.ahead with opened := false }, ahead := .empty } })) ∧
      ∀ (m : MapEntry) (first : Byte), ¬stays → e.streams.ahead.state = .empty → m = e.mapEntry next.pageCtr →
        first = (if next.pageMajor then next.offCtr &&& 0xFC#8 else next.offCtr &&& 0xE0#8) → m.classify = .clean →
        m.valid = true → m.mayRead = true → m.toExchange = false → e.engine.queue.length < 8 →
        exec .dataRead s = .next
          (State.drove byte
            (State.queued
              { serial := e.sched.serial, origin := .hostFetch, kind := .read, dest := .span (m.frame ++ first)
                words := if next.pageMajor then 1 else 8
                enables := [], data := [], note := none, confirm := m.confirm, reread := m.reread
                window := some (next.pageCtr, next.offCtr), abortRelease := false }
              (State.numbered
                { e.touched with
                  addr := next
                  streams := { e.streams with
                    current :=
                      { state := .fetching e.sched.serial, page := next.pageCtr, first := first, opened := false } } })))) ∧
    ∀ (data : List Byte) (page first reached unit : Byte) (m : MapEntry) (buffer : ReadBuffer) (r : Request),
      e.streams.current.state = .valid data → e.streams.current.opened = false → e.streams.ahead.state = .empty →
      byte = data.getD (e.addr.offCtr - e.streams.current.first).toNat 0x00#8 → unit = e.addr.offCtr &&& 0xE0#8 →
      (e.addr.pageMajor = false ∧ e.addr.offDec = false ∧ unit ≠ 0xE0#8 ∧ page = e.addr.pageCtr ∧ first = unit + 32#8 ∧
          reached = first ∨
        e.addr.pageMajor = false ∧ e.addr.offDec = true ∧ unit ≠ 0x00#8 ∧ page = e.addr.pageCtr ∧ first = unit - 32#8 ∧
          reached = unit - 1#8 ∨
        e.addr.pageMajor = true ∧ e.addr.pageDec = false ∧ e.addr.pageCtr ≠ e.addr.high ∧
          page = e.addr.pageCtr + 1#8 ∧ first = e.addr.offCtr &&& 0xFC#8 ∧ reached = e.addr.offCtr ∨
        e.addr.pageMajor = true ∧ e.addr.pageDec = true ∧ e.addr.pageCtr ≠ e.addr.low ∧
          page = e.addr.pageCtr - 1#8 ∧ first = e.addr.offCtr &&& 0xFC#8 ∧ reached = e.addr.offCtr) →
      m = e.mapEntry page → m.classify = .clean → m.valid = true → m.mayRead = true → m.toExchange = false →
      e.engine.queue.length < 8 → e.streams.staging = none →
      buffer = { state := .fetching e.sched.serial, page := page, first := first, opened := false } →
      r =
        { serial := e.sched.serial, origin := .lookahead, kind := .read, dest := .span (m.frame ++ first)
          words := if e.addr.pageMajor then 1 else 8
          enables := [], data := [], note := none, confirm := m.confirm, reread := m.reread
          window := some (page, reached), abortRelease := false } →
      (m.prefetch = true → stays →
        exec .dataRead s = .next
          (State.drove byte
            (State.queued r
              (State.numbered
                { e.touched with addr := next, streams := { e.streams with current := cur, ahead := buffer } })))) ∧
      (m.prefetch = true → ¬stays →
        exec .dataRead s = .next
          (State.drove byte
            (State.queued r
              (State.numbered
                { e.touched with addr := next, streams := { e.streams with current := buffer, ahead := .empty } })))) ∧
      (m.prefetch = false → stays →
        exec .dataRead s = .next
          (State.drove byte { e.touched with addr := next, streams := { e.streams with current := cur } }))

/-! ### Locks of the host -/

/-- FETCH LOCK at a ready bridge. In NONE, a page that may be locked gives a LOCK-READ of 2 words at the current offset
rounded down to 8, at the Span address or the Exchange doubleword that the page maps to; a page without the rights gives
MAP_RIGHTS. In another state it gives PROTOCOL (R50, R97). -/
def Obligations.FetchLockRecordsItsTarget : Prop :=
  ∀ (s e : State) (m : MapEntry) (offset : Byte) (l : HostLock) (r : Request), e = s.atHost → e.readyForCommand →
    m = e.mapEntry e.addr.pageCtr → offset = e.addr.offCtr &&& 0xF8#8 →
    l = { state := .fetching, target := some (.span (m.frame ++ offset)), confirm := m.confirm, page := e.addr.pageCtr
          offset := offset, current := some e.sched.serial, data := Vector.replicate 8 0x00#8, status := .good
          hold := none } →
    r = { serial := e.sched.serial, origin := .lockFetch, kind := .lockRead, dest := .span (m.frame ++ offset), words := 2
          enables := [], data := [], note := none, confirm := m.confirm, reread := false
          window := some (e.addr.pageCtr, offset), abortRelease := false } →
    (e.ilu.lock.state ≠ .none → exec .fetchLock s = .next (e.started.logged (bareFault .protocol .lock))) ∧
    (e.ilu.lock.state = .none → m.classify = .clean → m.valid = true → (m.mayLock && m.mayRead) = false →
      exec .fetchLock s = .next (e.started.logged (mapFault .mapRights .lock e.addr.pageCtr e.addr.offCtr))) ∧
    (e.ilu.lock.state = .none → m.classify = .clean → m.valid = true → m.mayLock = true → m.mayRead = true →
      e.engine.queue.length < 8 →
      (m.toExchange = false →
        exec .fetchLock s = .next
          (({ e.started with
              ilu := { e.ilu with lock := l, claim := { e.ilu.claim with heldCount := 0, used := false } } } :
            State).numbered.queued r)) ∧
      ∀ i : DwIndex, m.toExchange = true → m.frame.toNat ≤ 7 → i.toNat = 32 * m.frame.toNat + offset.toNat / 8 →
        exec .fetchLock s = .next
          (({ e.started with
              ilu := { e.ilu with lock := { l with target := some (.exchange i) }
                                  claim := { e.ilu.claim with heldCount := 0, used := false } } } :
            State).numbered.queued { r with dest := .exchange (i ++ 0#3) }))

/-- STORE UNLOCK and RELEASE LOCK at a ready bridge. In HELD each makes an UNLOCK-WRITE of 2 words at the recorded target
the current request and stops the hold timer; in any other state each gives PROTOCOL (R95, R100, R101). -/
def Obligations.HeldLocksAreStoredOrReleased : Prop :=
  ∀ (s e : State) (enables : Byte) (data : List Byte), e = s.atHost → e.readyForCommand → data.length = 8 →
    (e.ilu.lock.state ≠ .held →
      exec (.storeUnlock (enables :: data)) s = .next (e.started.logged (bareFault .protocol .lock)) ∧
        exec .releaseLock s = .next (e.started.logged (bareFault .protocol .lock))) ∧
    ∀ (target : LockTarget) (r : Request), e.ilu.lock.state = .held → e.ilu.lock.target = some target →
      e.engine.queue.length < 8 →
      r = { serial := e.sched.serial, origin := .lockStore, kind := .unlockWrite, dest := target.dest, words := 2
            enables := (List.range 8).map fun i => enables.getLsbD i
            data := data, note := none, confirm := e.ilu.lock.confirm, reread := false
            window := some (e.ilu.lock.page, e.ilu.lock.offset), abortRelease := false } →
      exec (.storeUnlock (enables :: data)) s = .next
        (({ e.started with
            ilu := { e.ilu with lock := { e.ilu.lock with
              state := .storing, current := some e.sched.serial, hold := none } } } : State).numbered.queued r) ∧
        exec .releaseLock s = .next
          (({ e.started with
              ilu := { e.ilu with lock := { e.ilu.lock with
                state := .releasing, current := some e.sched.serial, hold := none } } } : State).numbered.queued
            { r with origin := .lockRelease, enables := List.replicate 8 false, data := List.replicate 8 0x00#8 })

/-! ### The Window Map -/

/-- MAP WRITE at a ready bridge: with CHECK SUPPLY off the entry's check field is computed, with it on it is the one
given; a parameter out of range gives PARAM_RANGE and leaves the map alone. MAP READ reports the entry's flags, frame,
check field and outcome: the stored bits for CLEAN and SPOILED, the corrected entry, which is written back, for MENDED
(R45, R46, R55, R56). -/
def Obligations.MapEntriesAreWrittenAndRead : Prop :=
  (∀ (s e : State) (index flags b0 b1 b2 b3 check : Byte), e = s.atHost → e.readyForCommand →
      (e.checkSupply = false →
        exec (.mapWrite [index, flags, b0, b1, b2, b3]) s = .next
          (if b3.toNat < 16 then
            { e.started with
              map := e.map.set index.toNat
                { flags := flags, frame := b3.setWidth 4 ++ b2 ++ b1 ++ b0
                  check := Config.checkCode.field (flags ++ (b3.setWidth 4 ++ b2 ++ b1 ++ b0)) } index.isLt }
          else e.started.logged (hostFault .paramRange))) ∧
      (e.checkSupply = true →
        exec (.mapWrite [index, flags, b0, b1, b2, b3, check]) s = .next
          (if b3.toNat < 16 ∧ check.toNat < 128 then
            { e.started with
              map := e.map.set index.toNat
                { flags := flags, frame := b3.setWidth 4 ++ b2 ++ b1 ++ b0, check := check.setWidth 7 } index.isLt }
          else e.started.logged (hostFault .paramRange)))) ∧
    (∀ (s e : State) (index : Byte) (m : MapEntry) (bytes : MapEntry → Byte → List Byte), e = s.atHost →
        e.readyForCommand → m = e.mapEntry index →
        (∀ x outcome, bytes x outcome =
          [x.flags, x.frame.extractLsb' 0 8, x.frame.extractLsb' 8 8, x.frame.extractLsb' 16 8,
            (x.frame.extractLsb' 24 4).setWidth 8, x.check.setWidth 8, outcome]) →
        (m.classify = .clean → exec (.mapRead [index]) s = .next (e.started.reporting (bytes m 0x00#8))) ∧
        (∀ c, m.classify = .mended c →
          exec (.mapRead [index]) s = .next
            (State.logged { bareFault .mapMended .map with page := some index }
              (State.reporting (bytes c 0x01#8) { e.started with map := e.map.set index.toNat c index.isLt }))) ∧
        (m.classify = .spoiled →
          exec (.mapRead [index]) s = .next
            (State.logged { bareFault .mapSpoiled .map with page := some index } (e.started.reporting (bytes m 0x02#8)))))

/-- An upset inverts one stored bit of one entry and nothing else. A consistent entry is CLEAN; after one upset it is
MENDED back to what it was, and after two at different positions it is SPOILED (R47). -/
def Obligations.UpsetsAreMendedOrSpoiled : Prop :=
  (∀ (s e : State) (page : Byte) (i : Fin 43), e = s.enter .between →
    exec (.mapUpset page i) s = .next
      { e with map := e.map.set page.toNat ((e.mapEntry page).flip i) page.isLt }) ∧
    ∀ (flags : Byte) (frame : Frame) (c : MapEntry) (i j : Fin 43), c = MapEntry.computed flags frame →
      c.classify = .clean ∧ (c.flip i).classify = .mended c ∧ (i ≠ j → ((c.flip i).flip j).classify = .spoiled)

/-- The steps of a translation after the check: VALID, the rights of the access kind, and the destination (R50). -/
def Obligations.TranslationFollowsItsSteps : Prop :=
  ∀ (m : MapEntry) (offset : Byte) (k : AccessKind) (may : Bool),
    may = (match k with | .read => m.mayRead | .write => m.mayWrite | .lock => m.mayLock && m.mayRead) →
    m.resolve offset k =
      if m.valid = false then .error .mapInvalid
      else if may = false then .error .mapRights
      else if m.toExchange = true ∧ 7 < m.frame.toNat then .error .mapRange
      else
        .ok { dest := if m.toExchange = true then .exchange (BitVec.ofNat 11 (256 * m.frame.toNat + offset.toNat))
                else .span (BitVec.ofNat 36 (256 * m.frame.toNat + offset.toNat))
              confirm := m.confirm, prefetch := m.prefetch, reread := m.reread }

/-! ### Gate, settings and reports -/

/-- GATE WRITE and GATE READ at a ready bridge: the six fields of the entry at an index 0 to 7, PARAM_RANGE for an index
or a byte out of range, and the entry's six bytes as report. The gate takes the first entry in index order that is enabled
and covers the doubleword, the kind and the source node, and otherwise GATE DEFAULT (R117, R118, R119, R120). -/
def Obligations.GateIsWrittenReadAndDecides : Prop :=
  (∀ (s e : State) (index control kinds base mask low high : Byte), e = s.atHost → e.readyForCommand →
      (∀ i : Fin 8, index.toNat = i.val →
        exec (.gateWrite [index, control, kinds, base, mask, low, high]) s = .next
          (if control &&& 0x3F#8 = 0 ∧ kinds.toNat < 16 then
            { e.started with
              gate := e.gate.set i.val
                { enabled := control.getLsbD 7, deny := control.getLsbD 6, kinds := kinds.setWidth 4, base := base
                  mask := mask, nodes := high ++ low } }
          else e.started.logged (hostFault .paramRange)) ∧
        exec (.gateRead [index]) s = .next
          (e.started.reporting
            [bit 7 (e.gateEntry i).enabled ||| bit 6 (e.gateEntry i).deny, (e.gateEntry i).kinds.setWidth 8,
              (e.gateEntry i).base, (e.gateEntry i).mask, (e.gateEntry i).nodes.extractLsb' 0 8,
              (e.gateEntry i).nodes.extractLsb' 8 8])) ∧
      (8 ≤ index.toNat →
        exec (.gateWrite [index, control, kinds, base, mask, low, high]) s =
            .next (e.started.logged (hostFault .paramRange)) ∧
          exec (.gateRead [index]) s = .next (e.started.logged (hostFault .paramRange)))) ∧
    (∀ (s : State) (k : MemoryKind) (n : Node) (d : DwIndex) (hit : Fin 8 → Prop),
        (∀ i, hit i ↔ (s.gateEntry i).enabled = true ∧ (d ^^^ (s.gateEntry i).base) &&& (s.gateEntry i).mask = 0 ∧
          (s.gateEntry i).kinds.getLsbD k.gateBit = true ∧ (s.gateEntry i).nodes.getLsbD n.toNat = true) →
        (∀ i, hit i → (∀ j, j < i → ¬hit j) → s.gateDecision k n d = !(s.gateEntry i).deny) ∧
          ((∀ i, ¬hit i) → s.gateDecision k n d = (s.setting 8).getLsbD 0))

/-- SET at a ready bridge stores the value of a setting id 0 to 9 whose bits that must be 0 are 0, and otherwise gives
PARAM_RANGE and leaves every setting alone (R150, R151). -/
def Obligations.SetStoresTheValue : Prop :=
  ∀ (s e : State) (id low high : Byte), e = s.atHost → e.readyForCommand →
    (∀ i : Fin 10, id.toNat = i.val →
      exec (.set [id, low, high]) s = .next
        (if (high ++ low : BitVec 16) &&&
            ~~~([0x003F#16, 0x000F#16, 0x000F#16, 0x000F#16, 0x0FF3#16, 0xFFFF#16, 0x80FF#16, 0xFFFF#16, 0x0003#16,
              0x0001#16].getD i.val 0) = 0 then
          { e.started with settings := e.settings.set i.val (high ++ low) }
        else e.started.logged (hostFault .paramRange))) ∧
    (10 ≤ id.toNat → exec (.set [id, low, high]) s = .next (e.started.logged (hostFault .paramRange)))

/-- The IDENTITY, STATISTICS, COUNTERS and SETTING reports at a ready bridge. That the IDENTITY row carries the present
strap levels and sets them is the model's choice (assumption log 15) (R153, R154). -/
def Obligations.SettingsChapterReports : Prop :=
  (∀ (s e : State) (levels : Node) (selector : Byte), e = s.atHost → e.readyForCommand →
      (∀ t u : State, t = { s with pins := { s.pins with strapLevels := levels } } → u = t.atHost →
        u.readyForCommand →
        exec (.reportIdentity levels (some selector)) s = .next
          (u.started.reporting [0x3E#8, 0x01#8, 0x02#8, u.power.node.setWidth 8, levels.setWidth 8, 0x00#8])) ∧
      exec (.reportStatistics (some selector)) s = .next
        (e.started.reporting
          [e.engine.retries.extractLsb' 0 8, e.engine.retries.extractLsb' 8 8, e.engine.strays, e.log.mended])) ∧
    (∀ (s e : State) (selector : Byte), e = s.atHost → e.readyForCommand →
        exec (.reportCounters (some selector)) s = .next
          (e.started.reporting
            [e.addr.pageReg, e.addr.pageCtr, e.addr.offReg, e.addr.offCtr, e.addr.low, e.addr.high,
              bit 0 e.addr.offDec ||| bit 1 e.addr.pageDec ||| bit 2 e.addr.pageMajor,
              bit 0 e.addr.offEdge ||| bit 1 e.addr.pageEdge]) ∧
        (∀ i : Fin 10, selector.toNat = i.val →
          exec (.reportSetting (some selector)) s = .next
            (e.started.reporting
              [selector, (e.settings.get i).extractLsb' 0 8, (e.settings.get i).extractLsb' 8 8])) ∧
        (10 ≤ selector.toNat →
          exec (.reportSetting (some selector)) s = .next (e.started.logged (hostFault .paramRange))))

/-- The FAULT report, of an empty record and of every captured fault, with FFh for each absent field and bits 2 and 3 of
byte 1 for the presence of the window fields; and the SUMMARY report; at a ready bridge (R146, R147). -/
def Obligations.FaultAndSummaryReports : Prop :=
  ∀ (s e : State) (selector : Byte), e = s.atHost → e.readyForCommand →
    exec (.reportSummary (some selector)) s = .next
      (e.started.reporting
        [e.log.summary.extractLsb' 0 8, e.log.summary.extractLsb' 8 8, e.log.summary.extractLsb' 16 8,
          e.log.summary.extractLsb' 24 8]) ∧
    (e.log.capture = none →
      exec (.reportFault (some selector)) s = .next
        (e.started.reporting ([0x00#8, 0x00#8] ++ List.replicate 11 0xFF#8))) ∧
    ∀ f : FaultRecord, e.log.capture = some f →
      exec (.reportFault (some selector)) s = .next
        (e.started.reporting
          ([f.code.byte,
              bit 7 true ||| bit 0 f.code.hard ||| bit 1 e.log.overflow ||| bit 2 f.page.isSome ||| bit 3 f.offset.isSome,
              (match f.origin with
                | .hostPort => 0x00#8
                | .window => 0x01#8
                | .map => 0x02#8
                | .outbound => 0x03#8
                | .lock => 0x04#8
                | .inbound => 0x05#8
                | .notice => 0x06#8),
              (match f.tag with
                | none => 0xFF#8
                | some t => BitVec.ofNat 8 t.val),
              (match f.kind with
                | none => 0xFF#8
                | some .read => 0x00#8
                | some .write => 0x01#8
                | some .lockRead => 0x02#8
                | some .unlockWrite => 0x03#8
                | some .notice => 0x04#8
                | some .recall => 0x05#8
                | some .faultReport => 0x06#8),
              (match f.peer with
                | none => 0xFF#8
                | some n => n.setWidth 8),
              f.page.getD 0xFF#8, f.offset.getD 0xFF#8] ++
            (match f.address with
              | none => List.replicate 5 0xFF#8
              | some a =>
                [a.extractLsb' 0 8, a.extractLsb' 8 8, a.extractLsb' 16 8, a.extractLsb' 24 8,
                  (a.extractLsb' 32 4).setWidth 8])))

/-- The ENGINE and LOCK reports at a ready bridge (R155, R156). -/
def Obligations.EngineAndLockReports : Prop :=
  ∀ (s e : State) (selector : Byte), e = s.atHost → e.readyForCommand →
    exec (.reportEngine (some selector)) s = .next
      (e.started.reporting
        [BitVec.ofNat 8 e.engine.queue.length,
          bit 0 e.streams.staging.isSome ||| bit 3 e.engine.abandoned ||| bit 4 e.host.drainPending |||
            bit 6 e.power.asleep,
          (match e.engine.sendPoint.map SendPoint.offer with
            | none => 0x00#8
            | some .eligible => 0x01#8
            | some .outstanding => 0x02#8
            | some .waiting => 0x03#8),
          BitVec.ofNat 8 ((e.tag 0).number + 4 * (e.tag 1).number + 16 * (e.tag 2).number + 64 * (e.tag 3).number),
          e.tagFlags 0 TagState.abortRelease ||| e.tagFlags 4 TagState.rereadUsed,
          BitVec.ofNat 8 e.engine.reports.length, e.ilu.lock.state.reportByte ||| bit 7 e.ilu.lock.inExchange,
          bit 0 e.ilu.claim.driving ||| bit 1 e.ilu.claim.waiting ||| bit 2 e.ilu.claim.used |||
            bit 3 (e.pins.claimOthers || e.ilu.claim.driving),
          e.ilu.claim.heldCount, BitVec.ofNat 8 e.inbound.queue.length, BitVec.ofNat 8 e.inbound.beats.length,
          BitVec.ofNat 8 e.notices.queue.length, e.notices.arrival,
          BitVec.ofNat 8 e.ilu.table.length ||| bit 7 (e.ilu.table.any LockEntry.hostOwned),
          BitVec.ofNat 8 e.xmm.run]) ∧
    exec (.reportLock (some selector)) s = .next
      (e.started.reporting
        ([e.ilu.lock.state.reportByte, e.ilu.lock.status.reportByte] ++ e.ilu.lock.data.toList))

/-! ### Notices sent and taken, faults released -/

/-- TAKE NOTICE at a ready bridge moves the oldest record of the highest level present to the taken slot and reports it,
as REPORT TAKEN does again; from an empty queue it empties the slot (R130, R131). -/
def Obligations.NoticesAreTakenByLevel : Prop :=
  ∀ (s e : State) (selector : Byte) (bytes : Bool → NoticeRecord → List Byte), e = s.atHost → e.readyForCommand →
    (∀ w r, bytes w r =
      (match r.body with
        | .notice code =>
          [0x01#8 ||| bit 7 w, r.level.setWidth 8, r.source.setWidth 8, r.sequence, code.extractLsb' 0 8,
            code.extractLsb' 8 8, 0x00#8, 0x00#8, 0x00#8, 0x00#8]
        | .faultReport fc a =>
          [0x02#8 ||| bit 7 w, r.level.setWidth 8, r.source.setWidth 8, r.sequence, fc, (a.extractLsb' 32 4).setWidth 8,
            a.extractLsb' 0 8, a.extractLsb' 8 8, a.extractLsb' 16 8, a.extractLsb' 24 8])) →
    (e.notices.queue = [] →
      exec .takeNotice s = .next
        (State.reporting (List.replicate 10 0x00#8)
          { e.started with notices := { e.notices with taken := none, withdrawn := false } })) ∧
    (∀ (older newer : List NoticeRecord) (r : NoticeRecord), e.notices.queue = older ++ r :: newer →
      (∀ q ∈ older, q.level < r.level) → (∀ q ∈ newer, q.level ≤ r.level) →
      exec .takeNotice s = .next
        (State.reporting (bytes false r)
          { e.started with
            notices := { e.notices with queue := older ++ newer, taken := some r, withdrawn := false } })) ∧
    (∀ r, e.notices.taken = some r →
      exec (.reportTaken (some selector)) s = .next (e.started.reporting (bytes e.notices.withdrawn r))) ∧
    (e.notices.taken = none →
      exec (.reportTaken (some selector)) s = .next (e.started.reporting (List.replicate 10 0x00#8)))

/-- SEND NOTICE and SEND RECALL at a ready bridge enter one request at the tail of the queue; a node above 15 or the
bridge's own, or a level above 3, gives PARAM_RANGE (R133). -/
def Obligations.NoticesAndRecallsAreSent : Prop :=
  ∀ (s e : State) (node level low high : Byte) (r : Request), e = s.atHost → e.readyForCommand →
    e.engine.queue.length < 8 →
    r = { serial := e.sched.serial, origin := .noticeSend, kind := .notice, dest := .node (node.setWidth 4), words := 0
          enables := [], data := [], note := some (level.setWidth 2, high ++ low), confirm := false, reread := false
          window := none, abortRelease := false } →
    exec (.sendNotice [node, level, low, high]) s = .next
      (if node.toNat < 16 ∧ level.toNat < 4 ∧ node.toNat ≠ e.power.node.toNat then e.started.numbered.queued r
      else e.started.logged (hostFault .paramRange)) ∧
    exec (.sendRecall [node, level, low, high]) s = .next
      (if node.toNat < 16 ∧ level.toNat < 4 ∧ node.toNat ≠ e.power.node.toNat then
        e.started.numbered.queued { r with origin := .recallSend, kind := .recall }
      else e.started.logged (hostFault .paramRange))

/-- FAULT RELEASE empties the capture record and OVERFLOW and leaves the summary; FAULT CLEAR removes one code, or all,
from the summary and leaves the capture record (R144, R145). -/
def Obligations.FaultsAreReleasedAndCleared : Prop :=
  ∀ (s e : State) (code : Byte), e = s.atHost → e.readyForCommand →
    exec .faultRelease s = .next { e.started with log := { e.log with capture := none, overflow := false } } ∧
    exec (.faultClear [code]) s = .next
      (if code = 0xFF#8 then { e.started with log := { e.log with summary := 0 } }
      else if 1 ≤ code.toNat ∧ code.toNat ≤ 30 then
        { e.started with log := { e.log with summary := e.log.summary &&& ~~~(1#32 <<< code.toNat) } }
      else e.started.logged (hostFault .paramRange))

/-- A batch of faults is logged hard before soft and then by ascending code. Whatever the order in which they were raised,
the summary gains exactly their codes, OVERFLOW sets if a hard fault finds a hard one captured, and the mended counter
counts the mended ones up to 255. A free capture record takes the batch's first in that order, one that holds a soft fault
its first hard one, and a record that holds a hard fault, or a soft one against soft faults alone, keeps it (R140,
R141). -/
def Obligations.BatchesAreLoggedInOrder : Prop :=
  ∀ s : State, s.running = true →
    s.logBatch.raised = [] ∧
    (∀ c : FaultCode, s.logBatch.log.summary.getLsbD c.number = true ↔
      s.log.summary.getLsbD c.number = true ∨ ∃ f ∈ s.raised, f.code = c) ∧
    (∀ g, s.log.capture = some g → (g.code.hard = true ∨ ∀ f ∈ s.raised, f.code.hard = false) →
      s.logBatch.log.capture = some g) ∧
    (∀ f ∈ s.raised,
      (s.log.capture = none ∨ f.code.hard = true ∧ ∃ g, s.log.capture = some g ∧ g.code.hard = false) →
      (∀ g ∈ s.raised, (f.code.hard = true ∨ g.code.hard = false) ∧
        (f.code.hard = g.code.hard → f.code.number < g.code.number ∨ g = f)) →
      s.logBatch.log.capture = some f) ∧
    (s.logBatch.log.overflow = true ↔
      s.log.overflow = true ∨
        (∃ g, s.log.capture = some g ∧ g.code.hard = true) ∧ (∃ f ∈ s.raised, f.code.hard = true) ∨
        2 ≤ (s.raised.filter fun f => f.code.hard).length) ∧
    s.logBatch.log.mended.toNat =
      min 255 (s.log.mended.toNat + (s.raised.filter fun f => f.code == .mapMended || f.code == .dataMended).length)

/-! ### Abort, restart, sleep and the resets -/

/-- ABORT in WRITE STREAM, with the host lock HELD on a Span target and a posted write at the send point with no offer
outstanding: the pack, the staged, deferred and waiting requests, the queue but for abort releases, and the send point are
discarded with ABORTED; its tag goes FREE; a release of the lock enters at the tail and the lock is NONE (R92 to R94,
R104). -/
def Obligations.AbortDiscardsAndReleases : Prop :=
  ∀ (s e : State) (p : Pack) (sp : SendPoint) (t : Tag) (b : BusyTag) (a : SpanAddr), e = s.atHost → e.running = true →
    e.power.asleep = false → e.host.decoder = .writeStream → e.host.collected = none → e.raised = [] →
    e.streams.pack = some p → e.ilu.lock.state = .held → e.ilu.lock.target = some (.span a) →
    e.engine.sendPoint = some sp → sp.req.abortRelease = false → sp.req.kind = .write → sp.tag = some t →
    e.engine.abandoned = false → e.engine.outstanding = none → e.tag t = .busy b → b.awaiting = false →
    (∀ u, u ≠ t → e.tag u = .free) →
    exec .abort s = .next
      (State.logged (bareFault .aborted .outbound)
        (State.queued
          { serial := e.sched.serial, origin := .lockRelease, kind := .unlockWrite, dest := .span a, words := 2
            enables := List.replicate 8 false, data := List.replicate 8 0x00#8, note := none
            confirm := e.ilu.lock.confirm, reread := false, window := some (e.ilu.lock.page, e.ilu.lock.offset)
            abortRelease := false }
          (State.numbered
            { e.touched with
              host := { e.touched.host with idleLatch := false, drainPending := false, decoder := .idle }
              streams := { pack := none, staging := none, deferred := none, current := .empty, ahead := .empty }
              engine := { e.engine with
                queue := e.engine.queue.filter fun q => q.front && q.req.abortRelease
                sendPoint := none, abandonedTag := none, tags := Vector.replicate 4 .free }
              ilu := { e.ilu with
                waiting := none, kept := none
                lock := { e.ilu.lock with state := .none, target := none, current := none, hold := none }
                claim := { e.ilu.claim with driving := false, timer := none, waiting := false } } })))

/-- ABORT's treatment of a BUSY tag that awaits beats: QUARANTINE, or for a LOCK-READ the abort-release flag, whose
grant later makes a release as a front placement (R93, R94). -/
def Obligations.AbortTreatsAwaitingTags : Prop :=
  (∀ (s e : State) (t : Tag) (b : BusyTag), e = s.atHost → e.readyForCommand → e.tag t = .busy b → b.awaiting = true →
    e.engine.sendPoint = none →
    ∃ u, exec .abort s = .next u ∧
      u.tag t = if b.req.kind = .lockRead then .busy { b with abortRelease := true, window := .fresh }
        else .quarantine (e.startTimer (if e.responseLimit = 0 then 11 else e.responseLimit))) ∧
    ∀ (s e : State) (p : BeatPacket) (b : BusyTag), e = s.enter .packets → e.running = true → e.raised = [] →
      e.pins.spanReset = false → p.valueOk = true → p.beat.number = 0 → p.beat.requester = e.power.node →
      p.beat.status ≠ .held → e.tag p.beat.tag = .busy b → b.awaiting = true → b.abortRelease = true →
      b.req.kind = .lockRead → b.expected = 1 → b.received = [] → b.req.abortRelease = false →
      exec (.beat p) s = .next
        (State.reply (some .taken)
          (State.enqueueFront
            { req := { b.req with
                serial := e.sched.serial, origin := .lockRelease, kind := .unlockWrite
                enables := List.replicate 8 false, data := List.replicate 8 0x00#8, reread := false
                abortRelease := true }
              front := true, rereadMark := false, window := .fresh, waitTick := false }
            (e.setTag p.beat.tag .free).numbered))

/-- The first RESTART byte sets the half-seen flag and has no other effect; the second one, in any decoder state but an
open collection, restarts the bridge: what R159 lists takes its reset value, a BUSY tag enters QUARANTINE, an offer
becomes orphaned, and the rest is kept (R12, R159). -/
def Obligations.RestartTakesTwoBytes : Prop :=
  ∀ s e : State, e = s.atHost → e.running = true → e.raised = [] → e.streams.staging = none →
    e.host.collecting = false →
    (e.host.halfSeen = false →
      exec .restartFirstByte s = .next
        { e with pins := { e.pins with selected := true }, host := { e.host with halfSeen := true } }) ∧
    (e.host.halfSeen = true →
      exec .restart s = .next
        { e with
          pins := { e.pins with selected := true }
          host := State.reset.host, addr := State.reset.addr, streams := State.reset.streams, ilu := State.reset.ilu
          inbound := State.reset.inbound, xmm := { e.xmm with run := 0 }, notices := State.reset.notices
          power := { e.power with asleep := false }
          engine := { e.engine with
            queue := [], sendPoint := none, abandoned := false, abandonedTag := none
            outstanding := if e.engine.outstanding = none then none else some .orphaned
            tags := e.engine.tags.map fun st => match st with
              | .free => .free
              | .busy _ => .quarantine e.startQuarantine
              | .quarantine q => .quarantine q
            reports := [], reportHead := State.reset.engine.reportHead } })

/-- SLEEP at a ready bridge is accepted when R162's conditions hold and gives PROTOCOL otherwise; that an orphaned offer
still outstanding does not refuse it is the model's choice (assumption log 21). WAKE wakes a sleeping bridge. While
asleep, with no parameter owed, every command byte but WAKE, RESTART, REPORT and TAKE NOTICE is refused with PROTOCOL and
has no other effect than to clear the RESTART flag; REPORT and TAKE NOTICE do what they do awake (R6, R130, R162,
R163). -/
def Obligations.SleepIsEnteredFilteredAndLeft : Prop :=
  ((∀ s e : State, e = s.atHost → e.readyForCommand →
      (e.started.streams.deferred = none → e.ilu.waiting = none → e.engine.queue = [] → e.engine.sendPoint = none →
        e.engine.abandoned = false → (∀ t, e.tag t = .free) → e.engine.reports = [] → e.inbound.queue = [] →
        e.ilu.table = [] → e.ilu.lock.state = .none →
        exec .sleep s = .next { e.started with power := { e.power with asleep := true } }) ∧
      (e.started.streams.deferred ≠ none ∨ e.ilu.waiting ≠ none ∨ e.engine.queue ≠ [] ∨ e.engine.sendPoint ≠ none ∨
          e.engine.abandoned = true ∨ (∃ t, e.tag t ≠ .free) ∨ e.engine.reports ≠ [] ∨ e.inbound.queue ≠ [] ∨
          e.ilu.table ≠ [] ∨ e.ilu.lock.state ≠ .none →
        exec .sleep s = .next (e.started.logged (hostFault .protocol)))) ∧
      ∀ s e : State, e = s.atHost → e.running = true → e.streams.staging = none → e.streams.pack = none →
        e.host.collected = none → e.host.decoder ≠ .collecting → e.raised = [] →
        exec .wake s = .next { e.started with power := { e.power with asleep := false } }) ∧
    (∀ (s e : State) (b : Byte), e = s.atHost → e.running = true → e.power.asleep = true → e.streams.staging = none →
        e.host.collecting = false → e.raised = [] → b ≠ 0x41#8 → b ≠ 0x3F#8 → b ≠ 0x29#8 → b ≠ 0x30#8 →
        exec (.unknownCommandByte b) s = .next (e.touched.logged (hostFault .protocol)) ∧
        ∀ i ∈ [Instr.nop, .nextLine, .reload, .clearCounters, .writeStream, .readStream, .drain, .fetchLock, .releaseLock,
            .faultRelease, .abort, .sleep, .setPage [], .setOffset [], .setAddress [], .direction [], .windowLimit [],
            .storeUnlock [], .mapWrite [], .mapRead [], .gateWrite [], .gateRead [], .set [], .sendNotice [],
            .sendRecall [], .faultClear []],
          exec i s = .next (e.touched.logged (hostFault .protocol))) ∧
    ∀ (s e : State) (selector : Byte), e = s.atHost → e.running = true → e.power.asleep = true →
      e.streams.staging = none → e.streams.pack = none → e.host.collected = none → e.host.decoder ≠ .collecting →
      e.raised = [] →
      (∀ i ∈ [Instr.reportIdentity s.pins.strapLevels none, .reportCounters none, .reportFault none,
          .reportSummary none, .reportEngine none, .reportStatistics none, .reportSetting none, .reportLock none,
          .reportTaken none],
        exec i s = .next (e.started.owing .report 2)) ∧
      exec (.reportSummary (some selector)) s = .next
        (e.started.reporting
          [e.log.summary.extractLsb' 0 8, e.log.summary.extractLsb' 8 8, e.log.summary.extractLsb' 16 8,
            e.log.summary.extractLsb' 24 8]) ∧
      (e.notices.queue = [] →
        exec .takeNotice s = .next
          (State.reporting (List.replicate 10 0x00#8)
            { e.started with notices := { e.notices with taken := none, withdrawn := false } })) ∧
      ∀ (older newer : List NoticeRecord) (r : NoticeRecord) (code : NoticeCode),
        e.notices.queue = older ++ r :: newer → (∀ q ∈ older, q.level < r.level) → (∀ q ∈ newer, q.level ≤ r.level) →
        r.body = .notice code →
        exec .takeNotice s = .next
          (State.reporting
            [0x01#8, r.level.setWidth 8, r.source.setWidth 8, r.sequence, code.extractLsb' 0 8, code.extractLsb' 8 8,
              0x00#8, 0x00#8, 0x00#8, 0x00#8]
            { e.started with
              notices := { e.notices with queue := older ++ newer, taken := some r, withdrawn := false } })

/-- A reset begins: the straps are sampled, no offer is outstanding, CLAIM is not driven, and the pin reset records the
aperture in force; its end begins initialization. That the power-on reset leaves the step in progress unfinished
(assumption log 7) and that the pin reset comes after the end of that step (assumption log 4) are the model's choices
(R57, R76, R157, R158). -/
def Obligations.ResetsHoldTheBridge : Prop :=
  ∀ (s e : State) (straps : Node), e = s.enter .between →
    exec (.powerOnReset straps) s = .next
      { s with
        sched := { s.sched with phase := .between, onGrid := false, grants := 0 }
        raised := [], pins := { s.pins with strapLevels := straps }
        power := { mode := .held .powerOn, priorAperture := none, node := straps, asleep := false }
        engine := { s.engine with outstanding := none }, ilu := { s.ilu with claim := State.reset.ilu.claim } } ∧
    (s.running = true →
      exec (.pinReset straps) s = .next
        { e with
          sched := { e.sched with phase := .between, onGrid := false, grants := 0 }
          raised := [], pins := { e.pins with strapLevels := straps }
          power := { mode := .held .pin, priorAperture := e.aperture, node := straps, asleep := false }
          engine := { e.engine with outstanding := none }, ilu := { e.ilu with claim := State.reset.ilu.claim } }) ∧
    ∀ k, s.power.mode = .held k →
      exec .resetEnd s = .next { s with power := { s.power with mode := .initializing k } }

/-- Initialization ends with every element at its power-on value, but that a pin reset keeps the Window Map, the Gate
Table and Exchange Memory; the node number stays. That the pins, the record of outputs and the commands that wait stay
too, and that the bridge is then at the start of its first step, at the restart of the timebase, are the model's choices
(assumption log 18) (R157, R158). -/
def Obligations.InitializationSetsPowerOnValues : Prop :=
  ∀ (s : State) (k : ResetKind), s.power.mode = .initializing k →
    exec .resetInitializationEnd s = .next
      { State.reset with
        pending := s.pending, pins := s.pins, out := s.out
        sched := { phase := .spanLine, tick := 0, onGrid := true, grants := 0, serial := 0 }
        power := { mode := .running, priorAperture := none, node := s.power.node, asleep := false }
        map := if k = .pin then s.map else State.reset.map
        gate := if k = .pin then s.gate else State.reset.gate
        xmm := { mem := if k = .pin then s.xmm.mem else [], run := 0 } }

/-- In reset and initialization written bytes are discarded without a fault, data reads return 00h, the status byte is
80h, every packet the bridge selects itself for is answered FULL, or CHECK, with nothing else changed, and a send turn or
tick changes nothing. That an asserted SPAN-RESET line does not silence these answers is the model's reading (assumption
log 8) (R11, R71, R157). -/
def Obligations.ResetAnswersFull : Prop :=
  ∀ (s : State) (b : Byte) (m : MemoryPacket) (n : NoticePacket) (q : FaultReportPacket) (p : BeatPacket),
    s.running = false → s.raised = [] →
    s.statusByte = 0x80#8 ∧
    exec (.parameterByte b) s = .next { s with pins := { s.pins with selected := true } } ∧
    exec (.dataByte b) s = .next { s with pins := { s.pins with selected := true } } ∧
    exec .dataRead s = .next
      { s with pins := { s.pins with selected := true }, out := { s.out with hostData := some 0x00#8 } } ∧
    exec (.inboundMemoryRequest m) s = .next
      (s.reply (if inAperture s.power.priorAperture m.address = true then
        some (if m.valueOk = true ∧ m.wellFormed = true then .full else .check) else none)) ∧
    exec (.inboundNotice n) s = .next
      (s.reply (if n.destination = s.power.node then
        some (if n.valueOk = true ∧ n.level ≤ 3 then .full else .check) else none)) ∧
    exec (.inboundRecall n) s = .next
      (s.reply (if n.destination = s.power.node then
        some (if n.valueOk = true ∧ n.level ≤ 3 then .full else .check) else none)) ∧
    exec (.inboundFaultReport q) s = .next
      (s.reply (if q.destination = s.power.node then some (if q.valueOk = true then .full else .check) else none)) ∧
    exec (.beat p) s = .next
      (s.reply (if p.beat.requester = s.power.node then
        some (if p.valueOk = true ∧ p.beat.number ≤ 3 then .full else .check) else none)) ∧
    exec .sendTurn s = .next s ∧ exec .tickBoundary s = .next s

/-- SPAN-RESET asserted: the Span side is cleared as R160 lists, with SPAN_RESET_LOSS if a host-originated request is lost
from the queue, the send point or a tag, and SPAN_RESET if nothing is there; deasserted, it changes nothing else
(R160, R161). -/
def Obligations.SpanResetClearsTheSpanSide : Prop :=
  (∀ (s e : State) (fault : FaultCode), e = s.enter .spanLine → s.pins.spanReset = false → e.running = true →
    e.raised = [] →
    ((fault = .spanResetLoss ∧ ∃ r : Request, r.origin ≠ .noticeSend ∧ r.origin ≠ .recallSend ∧
        ((∃ q ∈ e.engine.queue, q.req = r) ∨ (∃ p, e.engine.sendPoint = some p ∧ p.req = r) ∨
          e.streams.staging = some r ∨ e.streams.deferred = some r ∨ e.ilu.waiting = some r ∨
          (∃ k, e.ilu.kept = some k ∧ k.req = r) ∨ ∃ t b, e.tag t = .busy b ∧ b.req = r)) ∨
      (fault = .spanReset ∧ e.engine.queue = [] ∧ e.engine.sendPoint = none ∧ e.streams.staging = none ∧
        e.streams.deferred = none ∧ e.ilu.waiting = none ∧ e.ilu.kept = none ∧ ∀ t b, e.tag t ≠ .busy b)) →
    exec .spanResetAssertion s = .next
      (State.logged (bareFault fault .outbound)
        { e with
          pins := { e.pins with spanReset := true }
          streams := { e.streams with staging := none, deferred := none, current := .empty, ahead := .empty }
          engine := { e.engine with
            queue := [], sendPoint := none, abandoned := false, abandonedTag := none
            outstanding := if e.engine.outstanding = none then none else some .orphaned
            tags := Vector.replicate 4 .free, reports := [], reportHead := State.reset.engine.reportHead }
          ilu := { lock := { e.ilu.lock with state := .none, target := none, current := none, hold := none }
                   waiting := none, kept := none, table := [], claim := State.reset.ilu.claim }
          inbound := State.reset.inbound, xmm := { e.xmm with run := 0 }
          notices := { e.notices with queue := [], taken := none, withdrawn := false } })) ∧
    ∀ s e : State, e = s.enter .spanLine → s.pins.spanReset = true →
      exec .spanResetDeassertion s = .next { e with pins := { e.pins with spanReset := false } }

/-- A change of the CLAIM line by other nodes changes that level alone; at the examination a waiting bridge that finds the
line free drives it, with the claim-used mark and the claim timer (R109, R164). -/
def Obligations.ClaimIsDrivenAfterTheWait : Prop :=
  (∀ (s e : State) (level : Bool), e = s.enter .claimLine → s.pins.claimOthers ≠ level →
    exec (.claimLineChange level) s = .next { e with pins := { e.pins with claimOthers := level } }) ∧
    ∀ s e : State, e = s.enter .exam → e.running = true → e.ilu.claim.waiting = true → e.ilu.claim.driving = false →
      e.pins.claimOthers = false →
      exec .claimDriveAfterWait s = .next
        { e with ilu := { e.ilu with claim := { e.ilu.claim with
            driving := true, used := true, waiting := false, timer := some (e.startTimer e.claimTime) } } }

/-! ### Packets -/

/-- A send turn places the head beat, else the head fault report, else the send point's request, the first that is
eligible; its retry window starts at its first offer and its receipt is awaited (R58, R73, R74, R82, R91). -/
def Obligations.SendTurnsFollowThePriority : Prop :=
  ∀ s e : State, e = s.enter .between → e.running = true → e.engine.outstanding = none → e.pins.spanReset = false →
    (∀ b rest, e.inbound.beats = b :: rest → e.inbound.head = .fresh →
      exec .sendTurn s = .next
        { e with
          inbound := { e.inbound with head :=
            { offer := .outstanding, window := { timer := some (e.startTimer e.retryLimit), expired := false } } }
          engine := { e.engine with outstanding := some .beat }
          out := { e.out with packet := some (.beat b.beat) } }) ∧
    (∀ r rest, (e.inbound.beats = [] ∨ e.inbound.head.offer = .waiting) → e.engine.reports = r :: rest →
      e.engine.reportHead = .fresh →
      exec .sendTurn s = .next
        { e with
          engine := { e.engine with
            reportHead :=
              { offer := .outstanding, window := { timer := some (e.startTimer e.retryLimit), expired := false } }
            outstanding := some .report }
          out := { e.out with packet := some (.faultReport e.power.node r.dest r.faultCode r.address) } }) ∧
    ∀ (p : SendPoint) (a : SpanAddr), (e.inbound.beats = [] ∨ e.inbound.head.offer = .waiting) →
      (e.engine.reports = [] ∨ e.engine.reportHead.offer = .waiting) → e.engine.abandoned = false →
      e.engine.sendPoint = some p → p.offer = .eligible → p.window = .fresh → p.req.dest = .span a →
      p.req.kind = .write →
      exec .sendTurn s = .next
        { e with
          engine := { e.engine with
            sendPoint := some { p with
              offer := .outstanding, window := { timer := some (e.startTimer e.retryLimit), expired := false } }
            outstanding := some .sendPoint }
          out := { e.out with
            packet := some (.memory .write e.power.node p.tag a p.req.words p.req.confirm p.req.enables p.req.data) } }

/-- A memory request: silence while SPAN-RESET is asserted and outside the aperture; then CHECK, FULL in sleep, DENIED by
the gate, TAKEN while the Inbound Queue has room, and FULL, in that order, with everything each leaves alone (R61, R67,
R68, R71, R120). -/
def Obligations.MemoryRequestsAreDecidedInOrder : Prop :=
  ∀ (s e : State) (p : MemoryPacket), e = s.enter .packets → e.running = true → e.raised = [] →
    exec (.inboundMemoryRequest p) s = .next
      (if e.pins.spanReset = true then e.reply none
      else if ¬(e.apertureEnabled = true ∧ p.address.toNat / 4096 = e.apertureNumber.toNat ∧
          p.address.toNat % 4096 < 2048) then
        e.reply none
      else if ¬(p.valueOk = true ∧ (p.words = 1 ∨ p.words = 2 ∨ p.words = 4 ∨ p.words = 8) ∧
          p.address.toNat % (4 * p.words) = 0 ∧ (p.kind = .lockRead ∨ p.kind = .unlockWrite → p.words = 2)) then
        e.reply (some .check)
      else if e.power.asleep = true then e.reply (some .full)
      else if e.gateDecision p.kind p.source (BitVec.ofNat 8 (p.address.toNat % 2048 / 8)) = false then
        State.reply (some .denied)
          (e.logged
            { code := .gateDenied, origin := .inbound, tag := some p.tag, kind := some p.kind.kind
              address := some p.address, page := none, offset := none, peer := some p.source })
      else if e.inbound.queue.length < 4 then
        State.reply (some .taken)
          (State.numbered
            { e with inbound := { e.inbound with queue := e.inbound.queue ++
              [{ serial := e.sched.serial, kind := p.kind, source := p.source, tag := p.tag, address := p.address
                 offset := BitVec.ofNat 11 (p.address.toNat % 2048), words := p.words, confirm := p.confirm
                 enables := p.enables, data := p.data, answering := false }] } })
      else e.reply (some .full))

/-- An inbound NOTICE is DENIED by NOTICE SOURCES, FULL with 14 NOTICE records or 16 records, else TAKEN; a FAULT-REPORT
is FULL with 16 records, else TAKEN at level 3; each record taken joins the queue with the next sequence number. While
SPAN-RESET is asserted neither is answered, and nothing changes (R69, R71, R126, R127, R128). -/
def Obligations.NoticesJoinTheQueue : Prop :=
  ∀ (s e : State) (p : NoticePacket) (q : FaultReportPacket), e = s.enter .packets → e.running = true → e.raised = [] →
    (e.pins.spanReset = true →
      exec (.inboundNotice p) s = .next (e.reply none) ∧ exec (.inboundFaultReport q) s = .next (e.reply none)) ∧
    (e.pins.spanReset = false → p.valueOk = true → p.level ≤ 3 → p.destination = e.power.node →
      exec (.inboundNotice p) s = .next
        (if (e.setting 7).getLsbD p.source.toNat = false then e.reply (some .denied)
        else if 14 ≤ (e.notices.queue.filter NoticeRecord.isNotice).length ∨ 16 ≤ e.notices.queue.length then
          e.reply (some .full)
        else
          State.reply (some .taken)
            { e with notices := { e.notices with
                queue := e.notices.queue ++
                  [{ body := .notice p.code, level := BitVec.ofNat 2 p.level, source := p.source
                     sequence := e.notices.arrival }]
                arrival := e.notices.arrival + 1 } })) ∧
    (e.pins.spanReset = false → q.valueOk = true → q.destination = e.power.node →
      exec (.inboundFaultReport q) s = .next
        (if 16 ≤ e.notices.queue.length then e.reply (some .full)
        else
          State.reply (some .taken)
            { e with notices := { e.notices with
                queue := e.notices.queue ++
                  [{ body := .faultReport q.faultCode q.address, level := 3, source := q.source
                     sequence := e.notices.arrival }]
                arrival := e.notices.arrival + 1 } }))

/-- An inbound RECALL from a permitted source is TAKEN: it removes the oldest queued NOTICE of its source, level and code,
else marks the taken one WITHDRAWN, else changes nothing. While SPAN-RESET is asserted it is not answered, and nothing
changes (R71, R129). -/
def Obligations.RecallsWithdrawOneNotice : Prop :=
  ∀ (s e : State) (p : NoticePacket) (hit : NoticeRecord → Prop), e = s.enter .packets → e.running = true →
    e.raised = [] → (e.pins.spanReset = true → exec (.inboundRecall p) s = .next (e.reply none)) ∧
    (e.pins.spanReset = false → p.valueOk = true → p.level ≤ 3 → p.destination = e.power.node →
    (∀ r, hit r ↔ r.body = .notice p.code ∧ r.level.toNat = p.level ∧ r.source = p.source) →
    ((e.setting 7).getLsbD p.source.toNat = false → exec (.inboundRecall p) s = .next (e.reply (some .denied))) ∧
    ((e.setting 7).getLsbD p.source.toNat = true →
      (∀ older newer r, e.notices.queue = older ++ r :: newer → hit r → (∀ x ∈ older, ¬hit x) →
        exec (.inboundRecall p) s = .next
          (State.reply (some .taken) { e with notices := { e.notices with queue := older ++ newer } })) ∧
      ((∀ x ∈ e.notices.queue, ¬hit x) →
        (∀ r, e.notices.taken = some r → hit r →
          exec (.inboundRecall p) s = .next
            (State.reply (some .taken) { e with notices := { e.notices with withdrawn := true } })) ∧
        ((∀ r, e.notices.taken = some r → ¬hit r) →
          exec (.inboundRecall p) s = .next (e.reply (some .taken))))))

/-- A beat that passes its check is TAKEN. One for a tag that awaits none is a stray; one out of range or repeated ends a
confirmed write with SEQUENCE and QUARANTINE; the one beat of a 2-word READ completes it into the Read Buffer bound to it,
FAILED if SPOILED. The granting beat of the current Span fetch makes the host lock HELD, with its data unless SPOILED and
its hold timer, and releases CLAIM; the confirmation of the current store or release makes it NONE. While SPAN-RESET is
asserted no beat is answered, and nothing changes (R39, R70, R71, R85, R86, R98, R102). -/
def Obligations.BeatsAreScored : Prop :=
  (∀ (s e : State) (p : BeatPacket), e = s.enter .packets → e.running = true → e.raised = [] →
    e.pins.spanReset = true → exec (.beat p) s = .next (e.reply none)) ∧
  ∀ (s e : State) (p : BeatPacket), e = s.enter .packets → e.running = true → e.raised = [] →
    e.pins.spanReset = false → p.valueOk = true → p.beat.number ≤ 3 → p.beat.requester = e.power.node →
    ((∀ b, e.tag p.beat.tag = .busy b → b.awaiting = false) →
      exec (.beat p) s = .next
        (State.reply (some .taken)
          (State.logged { bareFault .stray .outbound with tag := some p.beat.tag }
            { e with engine := { e.engine with
                strays := if e.engine.strays = 255#8 then 255#8 else e.engine.strays + 1 } }))) ∧
    (∀ b a, e.tag p.beat.tag = .busy b → b.awaiting = true → (b.expected ≤ p.beat.number ∨ p.beat.number ∈ b.received) →
      b.req.origin = .hostWrite → b.req.kind = .write → b.req.dest = .span a →
      exec (.beat p) s = .next
        (State.reply (some .taken)
          (State.logged
            { code := .sequence, origin := .outbound, tag := some p.beat.tag, kind := some .write, address := some a
              page := b.req.window.map Prod.fst, offset := b.req.window.map Prod.snd, peer := none }
            (e.setTag p.beat.tag
              (.quarantine (e.startTimer (if e.responseLimit = 0 then 11 else e.responseLimit))))))) ∧
    (∀ b, e.tag p.beat.tag = .busy b → b.awaiting = true → b.expected = 1 → b.received = [] → b.worst = .good →
      p.beat.number = 0 → p.beat.status ≠ .held → b.abortRelease = false → b.req.kind = .read → b.req.words = 2 →
      b.data.length = 8 → b.req.origin = .hostFetch → e.streams.current.state = .fetching b.req.serial →
      ∃ u, exec (.beat p) s = .next (State.reply (some .taken) u) ∧
        u = State.logBatch
          { e.setTag p.beat.tag .free with
            raised :=
              if p.beat.status = .good then []
              else [b.req.fault (if p.beat.status = .mended then .dataMended else .dataSpoiled) (some p.beat.tag)]
            streams := { e.streams with current := { e.streams.current with
              state := if p.beat.status = .spoiled then .failed
                else .valid (wordBytes p.beat.word0 ++ wordBytes p.beat.word1) } } }) ∧
    ∀ b faults, e.tag p.beat.tag = .busy b → b.awaiting = true → b.expected = 1 → b.received = [] → b.worst = .good →
      p.beat.number = 0 → p.beat.status ≠ .held → b.abortRelease = false →
      faults =
        (if p.beat.status = .good then []
        else [b.req.fault (if p.beat.status = .mended then .dataMended else .dataSpoiled) (some p.beat.tag)]) →
      (b.req.kind = .lockRead → b.req.origin = .lockFetch → b.data.length = 8 → e.ilu.lock.state = .fetching →
        e.ilu.lock.current = some b.req.serial →
        exec (.beat p) s = .next
          (State.reply (some .taken)
            (State.logBatch
              { e.setTag p.beat.tag .free with
                raised := faults
                ilu := { e.ilu with
                  lock := { e.ilu.lock with
                    state := .held, current := none, hold := some (e.startTimer e.lockHold)
                    status :=
                      if p.beat.status = .good then .good else if p.beat.status = .mended then .mended else .spoiled
                    data :=
                      if p.beat.status = .spoiled then e.ilu.lock.data
                      else Vector.ofFn fun i : Fin 8 =>
                        (wordBytes p.beat.word0 ++ wordBytes p.beat.word1).getD i.val 0x00#8 }
                  claim := { e.ilu.claim with driving := false, timer := none, waiting := false } } }))) ∧
      (b.req.kind = .unlockWrite → b.req.origin = .lockStore ∨ b.req.origin = .lockRelease →
        exec (.beat p) s = .next
          (State.reply (some .taken)
            (State.logBatch
              { e.setTag p.beat.tag .free with
                raised := faults
                ilu := { e.ilu with
                  lock := if e.ilu.lock.current = some b.req.serial then
                      { e.ilu.lock with state := .none, target := none, current := none, hold := none }
                    else e.ilu.lock } })))

/-- A HELD beat for the current Span fetch frees the tag, raises the HELD count, makes the assertion test, and puts the
request back at the front of the queue to wait for a tick boundary; with its retry window's expiry recorded the fetch
fails instead. The test passes when ASSERT is on, the count has reached the limit, of which 0 counts as 1, and the bridge
neither drives CLAIM nor waits to nor has done so for this fetch: it then drives a free line, and waits to assert one that
another node drives (R88, R98, R109). -/
def Obligations.HeldBeatsReofferTheFetch : Prop :=
  ∀ (s e : State) (p : BeatPacket) (b : BusyTag) (count : BitVec 8) (limit : Nat) (c : Claim),
    e = s.enter .packets → e.running = true → e.raised = [] →
    e.pins.spanReset = false → p.valueOk = true → p.beat.number = 0 → p.beat.requester = e.power.node →
    p.beat.status = .held → e.tag p.beat.tag = .busy b → b.awaiting = true → b.expected = 1 → b.received = [] →
    b.abortRelease = false → b.req.kind = .lockRead → b.req.origin = .lockFetch → e.ilu.lock.state = .fetching →
    e.ilu.lock.current = some b.req.serial →
    count = (if e.ilu.claim.heldCount = 255#8 then 255#8 else e.ilu.claim.heldCount + 1) →
    limit = (if (e.setting 4).toNat / 16 % 16 = 0 then 1 else (e.setting 4).toNat / 16 % 16) →
    c =
      (if (e.setting 4).getLsbD 0 = true ∧ limit ≤ count.toNat ∧ e.ilu.claim.driving = false ∧
          e.ilu.claim.waiting = false ∧ e.ilu.claim.used = false then
        if e.pins.claimOthers = true then { e.ilu.claim with heldCount := count, waiting := true }
        else
          { heldCount := count, driving := true, used := true, waiting := false
            timer := some (e.startTimer e.claimTime) }
      else { e.ilu.claim with heldCount := count }) →
    (b.window.expired = false →
      exec (.beat p) s = .next
        (State.reply (some .taken)
          (State.enqueueFront
            { req := b.req, front := true, rereadMark := false, window := b.window, waitTick := true }
            { e.setTag p.beat.tag .free with ilu := { e.ilu with claim := c } }))) ∧
    (b.window.expired = true →
      exec (.beat p) s = .next
        (State.reply (some .taken)
          (State.logged (b.req.fault .retryExhausted (some p.beat.tag))
            { e.setTag p.beat.tag .free with
              ilu := { e.ilu with
                lock := { e.ilu.lock with state := .none, target := none, current := none, hold := none }
                claim := { c with driving := false, timer := none, waiting := false } } })))

/-- The receipt of an offer of the send point's posted write: TAKEN completes it, with RECOVERED after refusals; CHECK and
FULL count a retry and make it wait, or end it if its window's expiry is recorded; DENIED and VOID end it. A READ that is
TAKEN awaits its beats at its tag, with its response timer started. A posted store or release of the host lock that is
TAKEN, DENIED or VOID, or refused past its window, makes the host lock NONE (R80, R81, R82, R83, R102). -/
def Obligations.ReceiptsSettleTheSendPoint : Prop :=
  (∀ (s e : State) (sp : SendPoint) (t : Tag) (a : SpanAddr) (fault : FaultCode → FaultRecord) (retries : BitVec 16)
      (r : Receipt), e = s.enter .packets → e.running = true → e.raised = [] →
      e.engine.outstanding = some .sendPoint → e.engine.abandoned = false → e.engine.sendPoint = some sp →
      sp.req.kind = .write → sp.req.origin = .hostWrite → sp.req.confirm = false → sp.req.dest = .span a →
      sp.tag = some t →
      (∀ c, fault c =
        { code := c, origin := .outbound, tag := some t, kind := some .write, address := some a
          page := sp.req.window.map Prod.fst, offset := sp.req.window.map Prod.snd, peer := none }) →
      retries = (if e.engine.retries = 65535#16 then 65535#16 else e.engine.retries + 1) →
      exec (.sendPointReceipt r) s = .next
        (match r with
          | .taken =>
            if sp.refused = true then
              State.logged (fault .recovered)
                { e with engine := { e.engine with
                    outstanding := none, sendPoint := none, tags := e.engine.tags.set t.val .free } }
            else
              { e with engine := { e.engine with
                  outstanding := none, sendPoint := none, tags := e.engine.tags.set t.val .free } }
          | .check | .full =>
            if sp.window.expired = true then
              State.logged (fault .retryExhausted)
                { e with engine := { e.engine with
                    outstanding := none, sendPoint := none, retries := retries
                    tags := e.engine.tags.set t.val .free } }
            else
              { e with engine := { e.engine with
                  outstanding := none, retries := retries
                  sendPoint := some { sp with offer := .waiting, refused := true } } }
          | .denied =>
            State.logged (fault .denied)
              { e with engine := { e.engine with
                  outstanding := none, sendPoint := none, tags := e.engine.tags.set t.val .free } }
          | .void =>
            State.logged (fault .voidTarget)
              { e with engine := { e.engine with
                  outstanding := none, sendPoint := none, tags := e.engine.tags.set t.val .free } })) ∧
    (∀ (s e : State) (sp : SendPoint) (t : Tag) (r : Receipt) (retries : BitVec 16) (ended : State),
      e = s.enter .packets → e.running = true → e.raised = [] → e.engine.outstanding = some .sendPoint →
      e.engine.abandoned = false → e.engine.sendPoint = some sp → sp.req.kind = .unlockWrite →
      sp.req.origin = .lockStore ∨ sp.req.origin = .lockRelease → sp.req.confirm = false → sp.tag = some t →
      sp.refused = false → e.ilu.lock.current = some sp.req.serial →
      retries = (if e.engine.retries = 65535#16 then 65535#16 else e.engine.retries + 1) →
      ended =
        { e with
          engine := { e.engine with outstanding := none, sendPoint := none, tags := e.engine.tags.set t.val .free }
          ilu := { e.ilu with
            lock := { e.ilu.lock with state := .none, target := none, current := none, hold := none } } } →
      exec (.sendPointReceipt r) s = .next
        (match r with
          | .taken => ended
          | .check | .full =>
            if sp.window.expired = true then
              State.logged (sp.req.fault .retryExhausted (some t))
                { ended with engine := { ended.engine with retries := retries } }
            else
              { e with engine := { e.engine with
                  outstanding := none, retries := retries
                  sendPoint := some { sp with offer := .waiting, refused := true } } }
          | .denied => State.logged (sp.req.fault .denied (some t)) ended
          | .void => State.logged (sp.req.fault .voidTarget (some t)) ended)) ∧
    ∀ (s e : State) (sp : SendPoint) (t : Tag) (b : BusyTag), e = s.enter .packets → e.running = true → e.raised = [] →
      e.engine.outstanding = some .sendPoint → e.engine.abandoned = false → e.engine.sendPoint = some sp →
      sp.req.kind = .read → sp.req.origin = .hostFetch → 0 < sp.req.words → sp.refused = false → sp.tag = some t →
      e.tag t = .busy b → b.req = sp.req →
      exec (.sendPointReceipt .taken) s = .next
        { e with engine := { e.engine with
            outstanding := none, sendPoint := none
            tags := e.engine.tags.set t.val
              (.busy { b with
                awaiting := true, response := some (e.startTimer e.responseLimit), window := .fresh }) } }

/-- The receipts of the other offers: a TAKEN fault report leaves its queue and a refused one waits or is dropped; the
last beat of an entry, TAKEN, completes the entry, and a refused beat waits or is dropped; an orphaned offer's receipt is
ignored and an abandoned one's clears the abandoned offer (R72, R73, R76, R91, R93). -/
def Obligations.OtherReceiptsSettleTheirOffers : Prop :=
  ∀ (s e : State) (r : Receipt), e = s.enter .packets → e.running = true → e.raised = [] →
    (∀ x rest, e.engine.outstanding = some .report → e.engine.reports = x :: rest →
      e.engine.reportHead.window.expired = false →
      exec (.reportQueueReceipt r) s = .next
        (match r with
          | .taken =>
            { e with engine := { e.engine with
                outstanding := none, reports := rest, reportHead := State.reset.engine.reportHead } }
          | .check | .full =>
            { e with engine := { e.engine with
                outstanding := none, reportHead := { e.engine.reportHead with offer := .waiting } } }
          | .denied | .void =>
            State.logged
              { code := .reportDropped, origin := .outbound, tag := none, kind := some .faultReport
                address := some x.address, page := none, offset := none, peer := some x.dest }
              { e with engine := { e.engine with
                  outstanding := none, reports := rest, reportHead := State.reset.engine.reportHead } })) ∧
    (∀ x rest, e.engine.outstanding = some .beat → e.inbound.beats = x :: rest → (∀ y ∈ rest, y.entry ≠ x.entry) →
      exec (.beatReceipt r) s = .next
        (match r with
          | .taken =>
            { e with
              engine := { e.engine with outstanding := none }
              inbound := { queue := e.inbound.queue.filter fun q => q.serial != x.entry
                           beats := rest, head := State.reset.inbound.head } }
          | .check | .full =>
            { e with
              engine := { e.engine with outstanding := none }
              inbound := { e.inbound with head := { e.inbound.head with offer := .waiting } } }
          | .denied | .void =>
            State.logged
              { code := .responseUndelivered, origin := .inbound, tag := some x.beat.tag, kind := some x.kind.kind
                address := some x.address, page := none, offset := none, peer := some x.beat.requester }
              { e with
                engine := { e.engine with outstanding := none }
                inbound := { queue := e.inbound.queue.filter fun q => q.serial != x.entry
                             beats := rest, head := State.reset.inbound.head } })) ∧
    (e.engine.outstanding = some .orphaned →
      exec (.orphanedReceipt r) s = .next { e with engine := { e.engine with outstanding := none } }) ∧
    (e.engine.outstanding = some .sendPoint → e.engine.abandoned = true →
      (e.engine.abandonedTag = none →
        exec (.abandonedOfferReceipt r) s = .next
          { e with engine := { e.engine with outstanding := none, abandoned := false } }) ∧
      ∀ t b, e.engine.abandonedTag = some t → e.tag t = .busy b → b.req.origin = .lockFetch →
        exec (.abandonedOfferReceipt r) s = .next
          { e with engine := { e.engine with
              outstanding := none, abandoned := false, abandonedTag := none
              tags := e.engine.tags.set t.val
                (if r = .taken then
                  .busy { b with awaiting := true, window := .fresh
                                 response := some (e.startTimer e.responseLimit) }
                else .free) } })

/-! ### Expiries -/

/-- A response timer that is the next expiry: a READ that may be re-sent goes to the front of the queue, any other
transaction of the host's writes fails with RESPONSE_TIMEOUT, and the tag enters QUARANTINE; a quarantine timer makes its
tag FREE (R86, R87). -/
def Obligations.TagTimersExpire : Prop :=
  ∀ (s e : State) (t : Tag), e = s.enter .timers → e.running = true →
    (e.nextExpiry = some (.quarantine t) →
      exec (.quarantineExpiry t) s = .next { e with engine := { e.engine with tags := e.engine.tags.set t.val .free } }) ∧
    ∀ b q, e.nextExpiry = some (.response t) → e.tag t = .busy b →
      q = TagState.quarantine (e.startTimer (if e.responseLimit = 0 then 11 else e.responseLimit)) →
      (b.req.kind = .read → b.req.reread = true → b.rereadUsed = false →
        exec (.responseTimerExpiry t) s = .next
          (State.enqueueFront
            { req := b.req, front := true, rereadMark := true, window := .fresh, waitTick := false } (e.setTag t q))) ∧
      (b.req.origin = .hostWrite → b.req.kind = .write → b.abortRelease = false →
        exec (.responseTimerExpiry t) s = .next
          ((e.setTag t q).batched (b.req.fault .responseTimeout (some t)))) ∧
      (b.req.kind = .lockRead → b.abortRelease = true → exec (.responseTimerExpiry t) s = .next (e.setTag t q))

/-- A retry window that is the next expiry: the send point's request fails with RETRY_EXHAUSTED unless an offer is
outstanding, which records the expiry; a queued lock fetch fails; the head report and the head beat are dropped; a kept
Exchange fetch fails and leaves the host lock NONE (R73, R82, R88, R91, R99). -/
def Obligations.RetryWindowsExpire : Prop :=
  ∀ s e : State, e = s.enter .timers → e.running = true →
    (∀ sp t, e.nextExpiry = some .sendPoint → e.engine.sendPoint = some sp → sp.tag = some t →
      sp.req.origin = .hostWrite →
      exec .sendPointRetryExpiry s = .next
        (if sp.offer = .outstanding then
          { e with engine := { e.engine with
              sendPoint := some { sp with window := { timer := none, expired := true } } } }
        else
          State.batched (sp.req.fault .retryExhausted (some t))
            { e with engine := { e.engine with sendPoint := none, tags := e.engine.tags.set t.val .free } })) ∧
    (∀ q rest, e.nextExpiry = some .lockFetch → (∀ t, e.tag t = .free) → e.engine.queue = q :: rest →
      timerDue q.window.timer e.sched.tick = true → q.req.origin = .lockFetch → e.streams.staging = none →
      e.ilu.lock.state = .fetching → e.ilu.lock.current = some q.req.serial →
      exec .lockFetchRetryExpiry s = .next
        (State.batched (q.req.fault .retryExhausted none)
          { e with
            engine := { e.engine with queue := rest }
            ilu := { e.ilu with
              lock := { e.ilu.lock with state := .none, target := none, current := none, hold := none }
              claim := { e.ilu.claim with driving := false, timer := none, waiting := false } } })) ∧
    (∀ x rest, e.nextExpiry = some .report → e.engine.reports = x :: rest →
      exec .reportRetryExpiry s = .next
        (if e.engine.reportHead.offer = .outstanding then
          { e with engine := { e.engine with
              reportHead := { e.engine.reportHead with window := { timer := none, expired := true } } } }
        else
          State.batched (reportDropped x)
            { e with engine := { e.engine with reports := rest, reportHead := State.reset.engine.reportHead } })) ∧
    (∀ x y rest, e.nextExpiry = some .beat → e.inbound.beats = x :: y :: rest → y.entry = x.entry →
      exec .beatRetryExpiry s = .next
        (State.batched (undelivered x)
          { e with
            engine := { e.engine with
              outstanding := if e.engine.outstanding = some .beat then some .orphaned else e.engine.outstanding }
            inbound := { e.inbound with beats := y :: rest, head := State.reset.inbound.head } })) ∧
    (e.nextExpiry = some .kept →
      exec .exchangeFetchRetryExpiry s = .next
        (State.batched (e.ilu.lock.fault .retryExhausted)
          { e with ilu := { e.ilu with
              kept := none
              lock := { e.ilu.lock with state := .none, target := none, current := none, hold := none } } }))

/-- A hold or claim timer that is the next expiry: a node's entry is removed with LOCK_EXPIRED and, with REPORTS on, a
report to it; the host's Exchange lock is removed, and its Span lock released, with LOCK_ABANDONED; the CLAIM line is
released with CLAIM_TIMEOUT (R90, R103, R108, R110). -/
def Obligations.HoldAndClaimTimersExpire : Prop :=
  ∀ s e : State, e = s.enter .timers → e.running = true →
    (∀ i n t a hold, e.nextExpiry = some (.nodeHold i) →
      findLock i e.ilu.table = some { index := i, owner := .node n t a hold } → e.engine.reports = [] →
      exec (.nodeHoldExpiry i) s = .next
        (State.batched
          { code := .lockExpired, origin := .lock, tag := some t, kind := some .lockRead, address := some a
            page := none, offset := none, peer := some n }
          { e with
            ilu := { e.ilu with table := e.ilu.table.filter fun x => x.index != i }
            engine := { e.engine with reports :=
              if e.reportsOn = true then [{ dest := n, faultCode := 0x15#8, address := a }] else [] } })) ∧
    (∀ i, e.nextExpiry = some .hostHold → e.ilu.lock.target = some (.exchange i) →
      exec .hostHoldExpiry s = .next
        (State.batched (e.ilu.lock.fault .lockAbandoned)
          { e with ilu := { e.ilu with
              table := e.ilu.table.filter fun x => !(x.index == i && x.hostOwned)
              lock := { e.ilu.lock with state := .none, target := none, current := none, hold := none } } })) ∧
    (∀ a, e.nextExpiry = some .hostHold → e.ilu.lock.target = some (.span a) → e.engine.queue.length < 8 →
      exec .hostHoldExpiry s = .next
        (State.batched (e.ilu.lock.fault .lockAbandoned)
          (State.queued
            { serial := e.sched.serial, origin := .lockRelease, kind := .unlockWrite, dest := .span a, words := 2
              enables := List.replicate 8 false, data := List.replicate 8 0x00#8, note := none
              confirm := e.ilu.lock.confirm, reread := false, window := some (e.ilu.lock.page, e.ilu.lock.offset)
              abortRelease := false }
            (State.numbered
              { e with ilu := { e.ilu with lock := { e.ilu.lock with
                  state := .releasing, current := some e.sched.serial, hold := none } } })))) ∧
    (e.nextExpiry = some .claim →
      exec .claimTimerExpiry s = .next
        (State.batched (e.ilu.lock.fault .claimTimeout)
          { e with ilu := { e.ilu with
              claim := { e.ilu.claim with driving := false, timer := none, waiting := false } } }))

/-! ### The end of a step -/

/-- A staged request enters the queue when it has room, and the deferred request then follows it, or takes the staging
slot where the queue is full again; a waiting lock request follows, into the staging slot where the queue is full; and a
Span head moves to an empty send point with the lowest FREE tag, which becomes BUSY. While OBEY is on and another node
drives CLAIM alone, a Span LOCK-READ of the host at the head does not move (R35, R79, R84, R96, R111). -/
def Obligations.RequestsMoveAtTheEndOfAStep : Prop :=
  ∀ s e : State, e = s.enter .pass → e.running = true →
    (∀ r, e.streams.staging = some r → e.engine.queue.length < 8 →
      (e.streams.deferred = none →
        exec .stagedRequestEntry s = .next
          (State.queued r { e with streams := { e.streams with staging := none } })) ∧
      ∀ d, e.streams.deferred = some d →
        exec .stagedRequestEntry s = .next
          (if e.engine.queue.length < 7 then
            State.queued d (State.queued r { e with streams := { e.streams with staging := none, deferred := none } })
          else State.queued r { e with streams := { e.streams with staging := some d, deferred := none } })) ∧
    (∀ r, e.streams.staging = none → e.ilu.waiting = some r →
      exec .waitingLockRequestPlacement s = .next
        (if e.engine.queue.length < 8 then State.queued r { e with ilu := { e.ilu with waiting := none } }
        else
          { e with streams := { e.streams with staging := some r }, ilu := { e.ilu with waiting := none } })) ∧
    (∀ q rest, e.engine.queue = q :: rest → q.req.kind = .lockRead → q.req.origin = .lockFetch →
      (∃ a, q.req.dest = .span a) → (e.setting 4).getLsbD 1 = true → e.pins.claimOthers = true →
      e.ilu.claim.driving = false → exec .headToSendPoint s = .next s) ∧
    ∀ q rest t a, e.streams.staging = none → e.ilu.waiting = none → e.engine.queue = q :: rest →
      (q.req.kind = .read ∧ q.req.origin = .hostFetch ∧ q.req.words = 8 ∨
        q.req.kind = .lockRead ∧ q.req.origin = .lockFetch ∧ q.req.words = 2 ∧
          ((e.setting 4).getLsbD 1 = false ∨ e.pins.claimOthers = false ∨ e.ilu.claim.driving = true)) →
      q.req.dest = .span a → q.waitTick = false →
      e.engine.sendPoint = none → e.engine.abandoned = false → e.pins.spanReset = false → e.tag t = .free →
      (∀ u, u < t → e.tag u ≠ .free) →
      exec .headToSendPoint s = .next
        { e with engine := { e.engine with
            queue := rest
            tags := e.engine.tags.set t.val
              (.busy { req := q.req, awaiting := false, expected := if q.req.kind = .read then 4 else 1, received := []
                       worst := .good, data := List.replicate (4 * q.req.words) 0x00#8, rereadUsed := q.rereadMark
                       abortRelease := false, response := none, window := .fresh })
            sendPoint := some { req := q.req, tag := some t, offer := .eligible, refused := false, window := q.window } } }

/-- One decision of the arbiter (R115). -/
def Obligations.ArbiterFollowsItsTable : Prop :=
  ∀ s : State,
    (∀ e, s.inboundCandidate = some e → s.localCandidate = none → s.arbitrate = some (.inbound e, 0)) ∧
    (∀ e l, s.inboundCandidate = some e → s.localCandidate = some l → s.xmm.run < 4 →
      s.arbitrate = some (.inbound e, s.xmm.run + 1)) ∧
    (∀ e l, s.inboundCandidate = some e → s.localCandidate = some l → s.xmm.run = 4 → s.arbitrate = some (l, 0)) ∧
    (∀ l, s.inboundCandidate = none → s.localCandidate = some l → s.arbitrate = some (l, 0)) ∧
    (s.inboundCandidate = none → s.localCandidate = none → s.arbitrate = none)

/-- A grant to the local head: a WRITE writes its enabled bytes, a fetch gives its bytes to the current Read Buffer bound
to it, a store or release of the host lock writes its enabled bytes, removes HOST's entry and makes the lock NONE, and a
LOCK-READ is granted or refused by the Lock Table; a kept fetch is attempted again (R39, R78, R99, R102). -/
def Obligations.LocalHeadsExecuteAtomically : Prop :=
  ∀ (s e : State) (n : Nat), e = s.enter .pass → e.running = true →
    (∀ r q rest, e.passNext = some (.grant (.head r) n) → e.engine.queue = q :: rest → r.kind = .write →
      r.origin = .hostWrite →
      exec .localRequestGrant s = .next
        { e with
          sched := { e.sched with grants := e.sched.grants + 1 }
          engine := { e.engine with queue := rest }
          xmm := { mem := e.xmm.mem.writeBytes r.offset r.enables r.data, run := n } }) ∧
    (∀ r q rest o, e.passNext = some (.grant (.head r) n) → e.engine.queue = q :: rest → r.kind = .read →
      r.origin = .hostFetch → r.dest = .exchange o → e.streams.current.state = .fetching r.serial →
      exec .localRequestGrant s = .next
        { e with
          sched := { e.sched with grants := e.sched.grants + 1 }
          engine := { e.engine with queue := rest }
          xmm := { e.xmm with run := n }
          streams := { e.streams with current := { e.streams.current with
            state := .valid (e.xmm.mem.readBytes o (4 * r.words)) } } }) ∧
    (∀ r q rest i, e.passNext = some (.grant (.head r) n) → e.engine.queue = q :: rest → r.kind = .unlockWrite →
      r.origin = .lockStore ∨ r.origin = .lockRelease → r.dest = .exchange (i ++ 0#3) →
      exec .localRequestGrant s = .next
        { e with
          sched := { e.sched with grants := e.sched.grants + 1 }
          engine := { e.engine with queue := rest }
          xmm := { mem := e.xmm.mem.writeBytes (i ++ 0#3) r.enables r.data, run := n }
          ilu := { e.ilu with
            table := e.ilu.table.filter fun x => !(x.index == i && x.hostOwned)
            lock := if e.ilu.lock.current = some r.serial then
                { e.ilu.lock with state := .none, target := none, current := none, hold := none }
              else e.ilu.lock } }) ∧
    (∀ r q rest i, e.passNext = some (.grant (.head r) n) → e.engine.queue = q :: rest → r.kind = .lockRead →
      r.dest = .exchange (i ++ 0#3) → e.ilu.lock.state = .fetching → e.ilu.lock.current = some r.serial →
      (findLock i e.ilu.table = none → e.ilu.table.length < 4 →
        exec .exchangeLockAttempt s = .next
          { e with
            sched := { e.sched with grants := e.sched.grants + 1 }
            engine := { e.engine with queue := rest }
            xmm := { e.xmm with run := n }
            ilu := { e.ilu with
              kept := none, table := e.ilu.table ++ [{ index := i, owner := .host }]
              lock := { e.ilu.lock with
                state := .held, current := none, status := .good
                data := Vector.ofFn fun k : Fin 8 => e.xmm.mem.read (8 * i.toNat + k.val)
                hold := some (e.startTimer e.lockHold) }
              claim := { e.ilu.claim with driving := false, timer := none, waiting := false } } }) ∧
      ((findLock i e.ilu.table).isSome = true ∨ 4 ≤ e.ilu.table.length →
        exec .exchangeLockAttempt s = .next
          { e with
            sched := { e.sched with grants := e.sched.grants + 1 }
            engine := { e.engine with queue := rest }
            xmm := { e.xmm with run := n }
            ilu := { e.ilu with
              kept := some { req := r, ready := false, window := e.startTimer e.retryLimit } } })) ∧
    ∀ k i, e.passNext = some (.grant (.kept k) n) → k.req.dest = .exchange (i ++ 0#3) →
      (findLock i e.ilu.table).isSome = true →
      exec .exchangeLockAttempt s = .next
        { e with
          sched := { e.sched with grants := e.sched.grants + 1 }
          xmm := { e.xmm with run := n }
          ilu := { e.ilu with kept := some { k with ready := false } } }

/-- A grant to an inbound READ owes the beats of its words; one to an inbound WRITE writes its enabled bytes and no other,
and completes it or owes its confirmation. An entry that owes beats becomes ANSWERING and they join the end of the
response list; one that owes none leaves the queue (R63, R72, R121, R122, R123). -/
def Obligations.InboundReadsAndWritesAreGranted : Prop :=
  (∀ (s e : State) (n : Nat) (q : InboundEntry) (owes : List Beat → Inbound) (u : State), e = s.enter .pass →
    e.running = true → e.passNext = some (.grant (.inbound q) n) →
    (∀ bs, owes bs = { e.inbound with
      queue := e.inbound.queue.map fun f => if f.serial = q.serial then { f with answering := true } else f
      beats := e.inbound.beats ++ bs.map fun b =>
        { beat := b, entry := q.serial, kind := q.kind, address := q.address } }) →
    u = { e with sched := { e.sched with grants := e.sched.grants + 1 }, xmm := { e.xmm with run := n } } →
    (q.kind = .read → q.words = 1 →
      exec .inboundReadGrant s = .next
        { u with
          inbound := owes
            [{ requester := q.source, tag := q.tag, number := 0, status := .good
               word0 := if q.address.getLsbD 2 then 0 else wordOfBytes (e.xmm.mem.readBytes q.offset 4)
               word1 := if q.address.getLsbD 2 then wordOfBytes (e.xmm.mem.readBytes q.offset 4) else 0 }] }) ∧
    (q.kind = .read → q.words = 2 ∨ q.words = 4 ∨ q.words = 8 →
      exec .inboundReadGrant s = .next
        { u with
          inbound := owes
            ((List.range (q.words / 2)).map fun k =>
              { requester := q.source, tag := q.tag, number := k, status := .good
                word0 := wordOfBytes (e.xmm.mem.readBytes (q.offset + BitVec.ofNat 11 (8 * k)) 4)
                word1 := wordOfBytes (e.xmm.mem.readBytes (q.offset + BitVec.ofNat 11 (8 * k + 4)) 4) }) }) ∧
    (q.kind = .write →
      exec .inboundWriteGrant s = .next
        { u with
          xmm := { u.xmm with mem := e.xmm.mem.writeBytes q.offset q.enables q.data }
          inbound := if q.confirm = true then
              owes [{ requester := q.source, tag := q.tag, number := 0, status := .good, word0 := 0, word1 := 0 }]
            else { e.inbound with queue := e.inbound.queue.filter fun f => f.serial != q.serial } })) ∧
    ∀ (m : Memory) (o : ExOffset) (enables : List Bool) (data : List Byte) (a : Nat), m.wf = true →
      data.length = enables.length → o.toNat + enables.length ≤ 2048 →
      (m.writeBytes o enables data).wf = true ∧
      (m.writeBytes o enables data).read a =
        if o.toNat ≤ a ∧ enables.getD (a - o.toNat) false = true then data.getD (a - o.toNat) 0x00#8 else m.read a

/-- A grant to an inbound LOCK-READ makes an entry and owes the doubleword, or owes HELD if the doubleword has an entry or
the table is full. One to an UNLOCK-WRITE writes its bytes, and removes the entry of the doubleword if the source node
owns it; if there is none, or HOST or another node owns it, it logs LOCK_ORPHAN and, with REPORTS on, sends a report to
the source, which is dropped with REPORT_DROPPED where 2 are queued. An entry that owes a beat becomes ANSWERING and the
beat joins the end of the response list; one that owes none leaves the queue (R72, R90, R106, R107, R121, R123). -/
def Obligations.InboundLocksAreGranted : Prop :=
  ∀ (s e : State) (n : Nat) (q : InboundEntry) (owes : Beat → Inbound) (done : Inbound) (u : State),
    e = s.enter .pass → e.running = true → e.passNext = some (.grant (.inbound q) n) →
    (∀ b, owes b = { e.inbound with
      queue := e.inbound.queue.map fun f => if f.serial = q.serial then { f with answering := true } else f
      beats := e.inbound.beats ++ [{ beat := b, entry := q.serial, kind := q.kind, address := q.address }] }) →
    done = (if q.confirm = true then
        owes { requester := q.source, tag := q.tag, number := 0, status := .good, word0 := 0, word1 := 0 }
      else { e.inbound with queue := e.inbound.queue.filter fun f => f.serial != q.serial }) →
    u = { e with sched := { e.sched with grants := e.sched.grants + 1 }, xmm := { e.xmm with run := n } } →
    (q.kind = .lockRead →
      exec .inboundLockReadGrant s = .next
        (if (findLock q.dw e.ilu.table).isSome = true ∨ 4 ≤ e.ilu.table.length then
          { u with
            inbound :=
              owes { requester := q.source, tag := q.tag, number := 0, status := .held, word0 := 0, word1 := 0 } }
        else
          { u with
            inbound :=
              owes { requester := q.source, tag := q.tag, number := 0, status := .good
                     word0 := wordOfBytes (e.xmm.mem.readBytes q.offset 4)
                     word1 := wordOfBytes (e.xmm.mem.readBytes (q.offset + 4) 4) }
            ilu := { e.ilu with table := e.ilu.table ++
              [{ index := q.dw, owner := .node q.source q.tag q.address (e.startTimer e.lockHold) }] } })) ∧
    ∀ (v : State) (orphan dropped : FaultRecord) (report : ReportEntry), q.kind = .unlockWrite →
      v = { u with xmm := { u.xmm with mem := e.xmm.mem.writeBytes q.offset q.enables q.data }, inbound := done } →
      orphan =
        { code := .lockOrphan, origin := .lock, tag := some q.tag, kind := some .unlockWrite
          address := some q.address, page := none, offset := none, peer := some q.source } →
      report = { dest := q.source, faultCode := 0x16#8, address := q.address } →
      dropped =
        { code := .reportDropped, origin := .outbound, tag := none, kind := some .faultReport
          address := some q.address, page := none, offset := none, peer := some q.source } →
      (∀ t a hold, findLock q.dw e.ilu.table = some { index := q.dw, owner := .node q.source t a hold } →
        exec .inboundUnlockWriteGrant s = .next
          { v with ilu := { e.ilu with table := e.ilu.table.filter fun x => x.index != q.dw } }) ∧
      (findLock q.dw e.ilu.table = none ∨ findLock q.dw e.ilu.table = some { index := q.dw, owner := .host } ∨
          (∃ m t a hold, m ≠ q.source ∧
            findLock q.dw e.ilu.table = some { index := q.dw, owner := .node m t a hold }) →
        exec .inboundUnlockWriteGrant s = .next
          (if e.reportsOn = false then v.batched orphan
          else if e.engine.reports.length < 2 then
            { v.batched orphan with engine := { e.engine with reports := e.engine.reports ++ [report] } }
          else (v.batched orphan).batched dropped))

/-! ### Invariants -/

/-- Every step keeps the three relations between the page limits, the page register and the page counter (R21). -/
def Obligations.EveryStepKeepsTheWindowRelations : Prop :=
  ∀ s t : State, s.addr.bounded → step s = .next t → t.addr.bounded

/-- Every step keeps the Outbound Queue's order and bounds: front placements ahead of the rest, at most 8 requests that
entered at the tail, and no more than 4 front placements and BUSY tags together, so at most 12 requests (R77). -/
def Obligations.EveryStepKeepsTheQueueBounds : Prop :=
  ∀ s t : State, s.engine.queueSound → step s = .next t → t.engine.queueSound ∧ t.engine.queue.length ≤ 12

/-- Every step keeps Exchange Memory in its canonical form and below 2048, the arbiter's count in 0 to 4, one entry per
doubleword and at most 4 in the Lock Table, and the bounds of the report queue and the Inbound Queue (R90, R105, R112,
R114, R121). -/
def Obligations.EveryStepKeepsMemoryAndTables : Prop :=
  ∀ s t : State, s.xmm.sound → tableSound s.ilu.table → s.boundsSound → step s = .next t →
    t.xmm.sound ∧ tableSound t.ilu.table ∧ t.boundsSound

/-- Every step keeps the Fault Log, the settings, the decoder's collection and report pointer, the Notice Queue and the
batch of unlogged faults in a state the manual allows (R3, R126, R127, R138, R141, R151). -/
def Obligations.EveryStepKeepsLogPortAndNotices : Prop :=
  ∀ s t : State, s.log.sound → s.settingsSound → s.host.sound → s.notices.sound → s.batchSound → step s = .next t →
    t.log.sound ∧ t.settingsSound ∧ t.host.sound ∧ t.notices.sound ∧ t.batchSound

/-- The state after reset has every property that the four statements before say each step keeps. -/
def Obligations.ResetIsSound : Prop :=
  State.reset.addr.bounded ∧ State.reset.engine.queueSound ∧ State.reset.xmm.sound ∧ tableSound State.reset.ilu.table ∧
    State.reset.boundsSound ∧ State.reset.log.sound ∧ State.reset.settingsSound ∧ State.reset.host.sound ∧
    State.reset.notices.sound ∧ State.reset.batchSound
end

