-- ==== Sys2Proof/Laws/State.lean ====
section
/-! SUPPORT. Every plain update of State: the field it changes, and that every other field is as before. -/

namespace Sys2Proof.Machine

@[simp] theorem State.raise_raised (f : FaultRecord) (s : State) :
    (State.raise f s).raised =
      s.raised ++ [f] := rfl
@[simp] theorem State.raise_keeps (f : FaultRecord) (s : State) : (State.raise f s).pending = s.pending ∧
    (State.raise f s).sched = s.sched ∧ (State.raise f s).pins = s.pins ∧ (State.raise f s).power = s.power ∧
    (State.raise f s).host = s.host ∧ (State.raise f s).addr = s.addr ∧ (State.raise f s).streams = s.streams ∧
    (State.raise f s).map = s.map ∧ (State.raise f s).engine = s.engine ∧ (State.raise f s).ilu = s.ilu ∧
    (State.raise f s).xmm = s.xmm ∧ (State.raise f s).gate = s.gate ∧ (State.raise f s).inbound = s.inbound ∧
    (State.raise f s).notices = s.notices ∧ (State.raise f s).log = s.log ∧ (State.raise f s).settings = s.settings
    ∧ (State.raise f s).out = s.out := by and_intros <;> rfl

@[simp] theorem State.takeSerial_sched (s : State) :
    (State.takeSerial s).sched =
      { s.sched with serial := s.sched.serial + 1 } := rfl
@[simp] theorem State.takeSerial_keeps (s : State) : (State.takeSerial s).pending = s.pending ∧ (State.takeSerial
    s).raised = s.raised ∧ (State.takeSerial s).pins = s.pins ∧ (State.takeSerial s).power = s.power ∧
    (State.takeSerial s).host = s.host ∧ (State.takeSerial s).addr = s.addr ∧ (State.takeSerial s).streams =
    s.streams ∧ (State.takeSerial s).map = s.map ∧ (State.takeSerial s).engine = s.engine ∧ (State.takeSerial s).ilu
    = s.ilu ∧ (State.takeSerial s).xmm = s.xmm ∧ (State.takeSerial s).gate = s.gate ∧ (State.takeSerial s).inbound =
    s.inbound ∧ (State.takeSerial s).notices = s.notices ∧ (State.takeSerial s).log = s.log ∧ (State.takeSerial
    s).settings = s.settings ∧ (State.takeSerial s).out = s.out := by and_intros <;> rfl

@[simp] theorem State.enqueue_engine (r : Request) (s : State) :
    (State.enqueue r s).engine =
      { s.engine with queue := s.engine.queue ++ [.tail r] } := rfl
@[simp] theorem State.enqueue_keeps (r : Request) (s : State) : (State.enqueue r s).pending = s.pending ∧
    (State.enqueue r s).sched = s.sched ∧ (State.enqueue r s).raised = s.raised ∧ (State.enqueue r s).pins = s.pins
    ∧ (State.enqueue r s).power = s.power ∧ (State.enqueue r s).host = s.host ∧ (State.enqueue r s).addr = s.addr ∧
    (State.enqueue r s).streams = s.streams ∧ (State.enqueue r s).map = s.map ∧ (State.enqueue r s).ilu = s.ilu ∧
    (State.enqueue r s).xmm = s.xmm ∧ (State.enqueue r s).gate = s.gate ∧ (State.enqueue r s).inbound = s.inbound ∧
    (State.enqueue r s).notices = s.notices ∧ (State.enqueue r s).log = s.log ∧ (State.enqueue r s).settings =
    s.settings ∧ (State.enqueue r s).out = s.out := by and_intros <;> rfl

@[simp] theorem State.enqueueFront_engine (e : QueueEntry) (s : State) :
    (State.enqueueFront e s).engine =
      { s.engine with queue := insertFront e s.engine.queue } := rfl
@[simp] theorem State.enqueueFront_keeps (e : QueueEntry) (s : State) : (State.enqueueFront e s).pending = s.pending
    ∧ (State.enqueueFront e s).sched = s.sched ∧ (State.enqueueFront e s).raised = s.raised ∧ (State.enqueueFront e
    s).pins = s.pins ∧ (State.enqueueFront e s).power = s.power ∧ (State.enqueueFront e s).host = s.host ∧
    (State.enqueueFront e s).addr = s.addr ∧ (State.enqueueFront e s).streams = s.streams ∧ (State.enqueueFront e
    s).map = s.map ∧ (State.enqueueFront e s).ilu = s.ilu ∧ (State.enqueueFront e s).xmm = s.xmm ∧
    (State.enqueueFront e s).gate = s.gate ∧ (State.enqueueFront e s).inbound = s.inbound ∧ (State.enqueueFront e
    s).notices = s.notices ∧ (State.enqueueFront e s).log = s.log ∧ (State.enqueueFront e s).settings = s.settings ∧
    (State.enqueueFront e s).out = s.out := by and_intros <;> rfl

@[simp] theorem State.stage_streams (r : Request) (s : State) :
    (State.stage r s).streams =
      { s.streams with staging := some r } := rfl
@[simp] theorem State.stage_keeps (r : Request) (s : State) : (State.stage r s).pending = s.pending ∧ (State.stage r
    s).sched = s.sched ∧ (State.stage r s).raised = s.raised ∧ (State.stage r s).pins = s.pins ∧ (State.stage r
    s).power = s.power ∧ (State.stage r s).host = s.host ∧ (State.stage r s).addr = s.addr ∧ (State.stage r s).map =
    s.map ∧ (State.stage r s).engine = s.engine ∧ (State.stage r s).ilu = s.ilu ∧ (State.stage r s).xmm = s.xmm ∧
    (State.stage r s).gate = s.gate ∧ (State.stage r s).inbound = s.inbound ∧ (State.stage r s).notices = s.notices
    ∧ (State.stage r s).log = s.log ∧ (State.stage r s).settings = s.settings ∧ (State.stage r s).out = s.out := by
    and_intros <;> rfl

@[simp] theorem State.setTag_engine (t : Tag) (st : TagState) (s : State) :
    (State.setTag t st s).engine =
      { s.engine with tags := s.engine.tags.set t.val st } := rfl
@[simp] theorem State.setTag_keeps (t : Tag) (st : TagState) (s : State) : (State.setTag t st s).pending = s.pending
    ∧ (State.setTag t st s).sched = s.sched ∧ (State.setTag t st s).raised = s.raised ∧ (State.setTag t st s).pins =
    s.pins ∧ (State.setTag t st s).power = s.power ∧ (State.setTag t st s).host = s.host ∧ (State.setTag t st
    s).addr = s.addr ∧ (State.setTag t st s).streams = s.streams ∧ (State.setTag t st s).map = s.map ∧ (State.setTag
    t st s).ilu = s.ilu ∧ (State.setTag t st s).xmm = s.xmm ∧ (State.setTag t st s).gate = s.gate ∧ (State.setTag t
    st s).inbound = s.inbound ∧ (State.setTag t st s).notices = s.notices ∧ (State.setTag t st s).log = s.log ∧
    (State.setTag t st s).settings = s.settings ∧ (State.setTag t st s).out = s.out := by and_intros <;> rfl

@[simp] theorem State.invalidate_streams (s : State) :
    (State.invalidate s).streams =
      { s.streams with current := .empty, ahead := .empty, deferred := none } := rfl
@[simp] theorem State.invalidate_keeps (s : State) : (State.invalidate s).pending = s.pending ∧ (State.invalidate
    s).sched = s.sched ∧ (State.invalidate s).raised = s.raised ∧ (State.invalidate s).pins = s.pins ∧
    (State.invalidate s).power = s.power ∧ (State.invalidate s).host = s.host ∧ (State.invalidate s).addr = s.addr ∧
    (State.invalidate s).map = s.map ∧ (State.invalidate s).engine = s.engine ∧ (State.invalidate s).ilu = s.ilu ∧
    (State.invalidate s).xmm = s.xmm ∧ (State.invalidate s).gate = s.gate ∧ (State.invalidate s).inbound = s.inbound
    ∧ (State.invalidate s).notices = s.notices ∧ (State.invalidate s).log = s.log ∧ (State.invalidate s).settings =
    s.settings ∧ (State.invalidate s).out = s.out := by and_intros <;> rfl

@[simp] theorem State.setMapEntry_map (page : Byte) (e : MapEntry) (s : State) :
    (State.setMapEntry page e s).map =
      s.map.set page.toNat e page.isLt := rfl
@[simp] theorem State.setMapEntry_keeps (page : Byte) (e : MapEntry) (s : State) : (State.setMapEntry page e
    s).pending = s.pending ∧ (State.setMapEntry page e s).sched = s.sched ∧ (State.setMapEntry page e s).raised =
    s.raised ∧ (State.setMapEntry page e s).pins = s.pins ∧ (State.setMapEntry page e s).power = s.power ∧
    (State.setMapEntry page e s).host = s.host ∧ (State.setMapEntry page e s).addr = s.addr ∧ (State.setMapEntry
    page e s).streams = s.streams ∧ (State.setMapEntry page e s).engine = s.engine ∧ (State.setMapEntry page e
    s).ilu = s.ilu ∧ (State.setMapEntry page e s).xmm = s.xmm ∧ (State.setMapEntry page e s).gate = s.gate ∧
    (State.setMapEntry page e s).inbound = s.inbound ∧ (State.setMapEntry page e s).notices = s.notices ∧
    (State.setMapEntry page e s).log = s.log ∧ (State.setMapEntry page e s).settings = s.settings ∧
    (State.setMapEntry page e s).out = s.out := by and_intros <;> rfl

@[simp] theorem State.dropPack_streams (s : State) :
    (State.dropPack s).streams =
      { s.streams with pack := none } := rfl
@[simp] theorem State.dropPack_keeps (s : State) : (State.dropPack s).pending = s.pending ∧ (State.dropPack s).sched
    = s.sched ∧ (State.dropPack s).raised = s.raised ∧ (State.dropPack s).pins = s.pins ∧ (State.dropPack s).power =
    s.power ∧ (State.dropPack s).host = s.host ∧ (State.dropPack s).addr = s.addr ∧ (State.dropPack s).map = s.map ∧
    (State.dropPack s).engine = s.engine ∧ (State.dropPack s).ilu = s.ilu ∧ (State.dropPack s).xmm = s.xmm ∧
    (State.dropPack s).gate = s.gate ∧ (State.dropPack s).inbound = s.inbound ∧ (State.dropPack s).notices =
    s.notices ∧ (State.dropPack s).log = s.log ∧ (State.dropPack s).settings = s.settings ∧ (State.dropPack s).out =
    s.out := by and_intros <;> rfl

@[simp] theorem State.stepMajor_addr (s : State) :
    (State.stepMajor s).addr =
      s.addr.stepMajor := rfl
@[simp] theorem State.stepMajor_keeps (s : State) : (State.stepMajor s).pending = s.pending ∧ (State.stepMajor
    s).sched = s.sched ∧ (State.stepMajor s).raised = s.raised ∧ (State.stepMajor s).pins = s.pins ∧
    (State.stepMajor s).power = s.power ∧ (State.stepMajor s).host = s.host ∧ (State.stepMajor s).streams =
    s.streams ∧ (State.stepMajor s).map = s.map ∧ (State.stepMajor s).engine = s.engine ∧ (State.stepMajor s).ilu =
    s.ilu ∧ (State.stepMajor s).xmm = s.xmm ∧ (State.stepMajor s).gate = s.gate ∧ (State.stepMajor s).inbound =
    s.inbound ∧ (State.stepMajor s).notices = s.notices ∧ (State.stepMajor s).log = s.log ∧ (State.stepMajor
    s).settings = s.settings ∧ (State.stepMajor s).out = s.out := by and_intros <;> rfl

@[simp] theorem State.setPack_streams (p : Pack) (s : State) :
    (State.setPack p s).streams =
      { s.streams with pack := some p } := rfl
@[simp] theorem State.setPack_keeps (p : Pack) (s : State) : (State.setPack p s).pending = s.pending ∧
    (State.setPack p s).sched = s.sched ∧ (State.setPack p s).raised = s.raised ∧ (State.setPack p s).pins = s.pins
    ∧ (State.setPack p s).power = s.power ∧ (State.setPack p s).host = s.host ∧ (State.setPack p s).addr = s.addr ∧
    (State.setPack p s).map = s.map ∧ (State.setPack p s).engine = s.engine ∧ (State.setPack p s).ilu = s.ilu ∧
    (State.setPack p s).xmm = s.xmm ∧ (State.setPack p s).gate = s.gate ∧ (State.setPack p s).inbound = s.inbound ∧
    (State.setPack p s).notices = s.notices ∧ (State.setPack p s).log = s.log ∧ (State.setPack p s).settings =
    s.settings ∧ (State.setPack p s).out = s.out := by and_intros <;> rfl

@[simp] theorem State.setCurrent_streams (b : ReadBuffer) (s : State) :
    (State.setCurrent b s).streams =
      { s.streams with current := b } := rfl
@[simp] theorem State.setCurrent_keeps (b : ReadBuffer) (s : State) : (State.setCurrent b s).pending = s.pending ∧
    (State.setCurrent b s).sched = s.sched ∧ (State.setCurrent b s).raised = s.raised ∧ (State.setCurrent b s).pins
    = s.pins ∧ (State.setCurrent b s).power = s.power ∧ (State.setCurrent b s).host = s.host ∧ (State.setCurrent b
    s).addr = s.addr ∧ (State.setCurrent b s).map = s.map ∧ (State.setCurrent b s).engine = s.engine ∧
    (State.setCurrent b s).ilu = s.ilu ∧ (State.setCurrent b s).xmm = s.xmm ∧ (State.setCurrent b s).gate = s.gate ∧
    (State.setCurrent b s).inbound = s.inbound ∧ (State.setCurrent b s).notices = s.notices ∧ (State.setCurrent b
    s).log = s.log ∧ (State.setCurrent b s).settings = s.settings ∧ (State.setCurrent b s).out = s.out := by
    and_intros <;> rfl

@[simp] theorem State.setAhead_streams (b : ReadBuffer) (s : State) :
    (State.setAhead b s).streams =
      { s.streams with ahead := b } := rfl
@[simp] theorem State.setAhead_keeps (b : ReadBuffer) (s : State) : (State.setAhead b s).pending = s.pending ∧
    (State.setAhead b s).sched = s.sched ∧ (State.setAhead b s).raised = s.raised ∧ (State.setAhead b s).pins =
    s.pins ∧ (State.setAhead b s).power = s.power ∧ (State.setAhead b s).host = s.host ∧ (State.setAhead b s).addr =
    s.addr ∧ (State.setAhead b s).map = s.map ∧ (State.setAhead b s).engine = s.engine ∧ (State.setAhead b s).ilu =
    s.ilu ∧ (State.setAhead b s).xmm = s.xmm ∧ (State.setAhead b s).gate = s.gate ∧ (State.setAhead b s).inbound =
    s.inbound ∧ (State.setAhead b s).notices = s.notices ∧ (State.setAhead b s).log = s.log ∧ (State.setAhead b
    s).settings = s.settings ∧ (State.setAhead b s).out = s.out := by and_intros <;> rfl

@[simp] theorem State.setLock_ilu (l : HostLock) (s : State) :
    (State.setLock l s).ilu =
      { s.ilu with lock := l } := rfl
@[simp] theorem State.setLock_keeps (l : HostLock) (s : State) : (State.setLock l s).pending = s.pending ∧
    (State.setLock l s).sched = s.sched ∧ (State.setLock l s).raised = s.raised ∧ (State.setLock l s).pins = s.pins
    ∧ (State.setLock l s).power = s.power ∧ (State.setLock l s).host = s.host ∧ (State.setLock l s).addr = s.addr ∧
    (State.setLock l s).streams = s.streams ∧ (State.setLock l s).map = s.map ∧ (State.setLock l s).engine =
    s.engine ∧ (State.setLock l s).xmm = s.xmm ∧ (State.setLock l s).gate = s.gate ∧ (State.setLock l s).inbound =
    s.inbound ∧ (State.setLock l s).notices = s.notices ∧ (State.setLock l s).log = s.log ∧ (State.setLock l
    s).settings = s.settings ∧ (State.setLock l s).out = s.out := by and_intros <;> rfl

@[simp] theorem State.setTable_ilu (t : List LockEntry) (s : State) :
    (State.setTable t s).ilu =
      { s.ilu with table := t } := rfl
@[simp] theorem State.setTable_keeps (t : List LockEntry) (s : State) : (State.setTable t s).pending = s.pending ∧
    (State.setTable t s).sched = s.sched ∧ (State.setTable t s).raised = s.raised ∧ (State.setTable t s).pins =
    s.pins ∧ (State.setTable t s).power = s.power ∧ (State.setTable t s).host = s.host ∧ (State.setTable t s).addr =
    s.addr ∧ (State.setTable t s).streams = s.streams ∧ (State.setTable t s).map = s.map ∧ (State.setTable t
    s).engine = s.engine ∧ (State.setTable t s).xmm = s.xmm ∧ (State.setTable t s).gate = s.gate ∧ (State.setTable t
    s).inbound = s.inbound ∧ (State.setTable t s).notices = s.notices ∧ (State.setTable t s).log = s.log ∧
    (State.setTable t s).settings = s.settings ∧ (State.setTable t s).out = s.out := by and_intros <;> rfl

@[simp] theorem State.setClaim_ilu (c : Claim) (s : State) :
    (State.setClaim c s).ilu =
      { s.ilu with claim := c } := rfl
@[simp] theorem State.setClaim_keeps (c : Claim) (s : State) : (State.setClaim c s).pending = s.pending ∧
    (State.setClaim c s).sched = s.sched ∧ (State.setClaim c s).raised = s.raised ∧ (State.setClaim c s).pins =
    s.pins ∧ (State.setClaim c s).power = s.power ∧ (State.setClaim c s).host = s.host ∧ (State.setClaim c s).addr =
    s.addr ∧ (State.setClaim c s).streams = s.streams ∧ (State.setClaim c s).map = s.map ∧ (State.setClaim c
    s).engine = s.engine ∧ (State.setClaim c s).xmm = s.xmm ∧ (State.setClaim c s).gate = s.gate ∧ (State.setClaim c
    s).inbound = s.inbound ∧ (State.setClaim c s).notices = s.notices ∧ (State.setClaim c s).log = s.log ∧
    (State.setClaim c s).settings = s.settings ∧ (State.setClaim c s).out = s.out := by and_intros <;> rfl

@[simp] theorem State.dropKept_ilu (s : State) :
    (State.dropKept s).ilu =
      { s.ilu with kept := none } := rfl
@[simp] theorem State.dropKept_keeps (s : State) : (State.dropKept s).pending = s.pending ∧ (State.dropKept s).sched
    = s.sched ∧ (State.dropKept s).raised = s.raised ∧ (State.dropKept s).pins = s.pins ∧ (State.dropKept s).power =
    s.power ∧ (State.dropKept s).host = s.host ∧ (State.dropKept s).addr = s.addr ∧ (State.dropKept s).streams =
    s.streams ∧ (State.dropKept s).map = s.map ∧ (State.dropKept s).engine = s.engine ∧ (State.dropKept s).xmm =
    s.xmm ∧ (State.dropKept s).gate = s.gate ∧ (State.dropKept s).inbound = s.inbound ∧ (State.dropKept s).notices =
    s.notices ∧ (State.dropKept s).log = s.log ∧ (State.dropKept s).settings = s.settings ∧ (State.dropKept s).out =
    s.out := by and_intros <;> rfl

@[simp] theorem State.keepFetch_ilu (r : Request) (window : Option Timer) (s : State) :
    (State.keepFetch r window s).ilu =
      { s.ilu with kept := some { req := r, ready := false, window := window.getD (s.startTimer s.retryLimit) } } := rfl
@[simp] theorem State.keepFetch_keeps (r : Request) (window : Option Timer) (s : State) : (State.keepFetch r window
    s).pending = s.pending ∧ (State.keepFetch r window s).sched = s.sched ∧ (State.keepFetch r window s).raised =
    s.raised ∧ (State.keepFetch r window s).pins = s.pins ∧ (State.keepFetch r window s).power = s.power ∧
    (State.keepFetch r window s).host = s.host ∧ (State.keepFetch r window s).addr = s.addr ∧ (State.keepFetch r
    window s).streams = s.streams ∧ (State.keepFetch r window s).map = s.map ∧ (State.keepFetch r window s).engine =
    s.engine ∧ (State.keepFetch r window s).xmm = s.xmm ∧ (State.keepFetch r window s).gate = s.gate ∧
    (State.keepFetch r window s).inbound = s.inbound ∧ (State.keepFetch r window s).notices = s.notices ∧
    (State.keepFetch r window s).log = s.log ∧ (State.keepFetch r window s).settings = s.settings ∧ (State.keepFetch
    r window s).out = s.out := by and_intros <;> rfl

@[simp] theorem State.setSendPoint_engine (sp : Option SendPoint) (s : State) :
    (State.setSendPoint sp s).engine =
      { s.engine with sendPoint := sp } := rfl
@[simp] theorem State.setSendPoint_keeps (sp : Option SendPoint) (s : State) : (State.setSendPoint sp s).pending =
    s.pending ∧ (State.setSendPoint sp s).sched = s.sched ∧ (State.setSendPoint sp s).raised = s.raised ∧
    (State.setSendPoint sp s).pins = s.pins ∧ (State.setSendPoint sp s).power = s.power ∧ (State.setSendPoint sp
    s).host = s.host ∧ (State.setSendPoint sp s).addr = s.addr ∧ (State.setSendPoint sp s).streams = s.streams ∧
    (State.setSendPoint sp s).map = s.map ∧ (State.setSendPoint sp s).ilu = s.ilu ∧ (State.setSendPoint sp s).xmm =
    s.xmm ∧ (State.setSendPoint sp s).gate = s.gate ∧ (State.setSendPoint sp s).inbound = s.inbound ∧
    (State.setSendPoint sp s).notices = s.notices ∧ (State.setSendPoint sp s).log = s.log ∧ (State.setSendPoint sp
    s).settings = s.settings ∧ (State.setSendPoint sp s).out = s.out := by and_intros <;> rfl

@[simp] theorem State.setOutstanding_engine (o : Option Offered) (s : State) :
    (State.setOutstanding o s).engine =
      { s.engine with outstanding := o } := rfl
@[simp] theorem State.setOutstanding_keeps (o : Option Offered) (s : State) : (State.setOutstanding o s).pending =
    s.pending ∧ (State.setOutstanding o s).sched = s.sched ∧ (State.setOutstanding o s).raised = s.raised ∧
    (State.setOutstanding o s).pins = s.pins ∧ (State.setOutstanding o s).power = s.power ∧ (State.setOutstanding o
    s).host = s.host ∧ (State.setOutstanding o s).addr = s.addr ∧ (State.setOutstanding o s).streams = s.streams ∧
    (State.setOutstanding o s).map = s.map ∧ (State.setOutstanding o s).ilu = s.ilu ∧ (State.setOutstanding o s).xmm
    = s.xmm ∧ (State.setOutstanding o s).gate = s.gate ∧ (State.setOutstanding o s).inbound = s.inbound ∧
    (State.setOutstanding o s).notices = s.notices ∧ (State.setOutstanding o s).log = s.log ∧ (State.setOutstanding
    o s).settings = s.settings ∧ (State.setOutstanding o s).out = s.out := by and_intros <;> rfl

@[simp] theorem State.dequeue_engine (s : State) :
    (State.dequeue s).engine =
      { s.engine with queue := s.engine.queue.tail } := rfl
@[simp] theorem State.dequeue_keeps (s : State) : (State.dequeue s).pending = s.pending ∧ (State.dequeue s).sched =
    s.sched ∧ (State.dequeue s).raised = s.raised ∧ (State.dequeue s).pins = s.pins ∧ (State.dequeue s).power =
    s.power ∧ (State.dequeue s).host = s.host ∧ (State.dequeue s).addr = s.addr ∧ (State.dequeue s).streams =
    s.streams ∧ (State.dequeue s).map = s.map ∧ (State.dequeue s).ilu = s.ilu ∧ (State.dequeue s).xmm = s.xmm ∧
    (State.dequeue s).gate = s.gate ∧ (State.dequeue s).inbound = s.inbound ∧ (State.dequeue s).notices = s.notices
    ∧ (State.dequeue s).log = s.log ∧ (State.dequeue s).settings = s.settings ∧ (State.dequeue s).out = s.out := by
    and_intros <;> rfl

@[simp] theorem State.countRetry_engine (s : State) :
    (State.countRetry s).engine =
      { s.engine with retries := saturate s.engine.retries } := rfl
@[simp] theorem State.countRetry_keeps (s : State) : (State.countRetry s).pending = s.pending ∧ (State.countRetry
    s).sched = s.sched ∧ (State.countRetry s).raised = s.raised ∧ (State.countRetry s).pins = s.pins ∧
    (State.countRetry s).power = s.power ∧ (State.countRetry s).host = s.host ∧ (State.countRetry s).addr = s.addr ∧
    (State.countRetry s).streams = s.streams ∧ (State.countRetry s).map = s.map ∧ (State.countRetry s).ilu = s.ilu ∧
    (State.countRetry s).xmm = s.xmm ∧ (State.countRetry s).gate = s.gate ∧ (State.countRetry s).inbound = s.inbound
    ∧ (State.countRetry s).notices = s.notices ∧ (State.countRetry s).log = s.log ∧ (State.countRetry s).settings =
    s.settings ∧ (State.countRetry s).out = s.out := by and_intros <;> rfl

@[simp] theorem State.clearAbandoned_engine (s : State) :
    (State.clearAbandoned s).engine =
      { s.engine with abandoned := false, abandonedTag := none } := rfl
@[simp] theorem State.clearAbandoned_keeps (s : State) : (State.clearAbandoned s).pending = s.pending ∧
    (State.clearAbandoned s).sched = s.sched ∧ (State.clearAbandoned s).raised = s.raised ∧ (State.clearAbandoned
    s).pins = s.pins ∧ (State.clearAbandoned s).power = s.power ∧ (State.clearAbandoned s).host = s.host ∧
    (State.clearAbandoned s).addr = s.addr ∧ (State.clearAbandoned s).streams = s.streams ∧ (State.clearAbandoned
    s).map = s.map ∧ (State.clearAbandoned s).ilu = s.ilu ∧ (State.clearAbandoned s).xmm = s.xmm ∧
    (State.clearAbandoned s).gate = s.gate ∧ (State.clearAbandoned s).inbound = s.inbound ∧ (State.clearAbandoned
    s).notices = s.notices ∧ (State.clearAbandoned s).log = s.log ∧ (State.clearAbandoned s).settings = s.settings ∧
    (State.clearAbandoned s).out = s.out := by and_intros <;> rfl

@[simp] theorem State.removeEntry_engine (p : QueueEntry → Bool) (s : State) :
    (State.removeEntry p s).engine =
      { s.engine with queue := s.engine.queue.eraseP p } := rfl
@[simp] theorem State.removeEntry_keeps (p : QueueEntry → Bool) (s : State) : (State.removeEntry p s).pending =
    s.pending ∧ (State.removeEntry p s).sched = s.sched ∧ (State.removeEntry p s).raised = s.raised ∧
    (State.removeEntry p s).pins = s.pins ∧ (State.removeEntry p s).power = s.power ∧ (State.removeEntry p s).host =
    s.host ∧ (State.removeEntry p s).addr = s.addr ∧ (State.removeEntry p s).streams = s.streams ∧
    (State.removeEntry p s).map = s.map ∧ (State.removeEntry p s).ilu = s.ilu ∧ (State.removeEntry p s).xmm = s.xmm
    ∧ (State.removeEntry p s).gate = s.gate ∧ (State.removeEntry p s).inbound = s.inbound ∧ (State.removeEntry p
    s).notices = s.notices ∧ (State.removeEntry p s).log = s.log ∧ (State.removeEntry p s).settings = s.settings ∧
    (State.removeEntry p s).out = s.out := by and_intros <;> rfl

@[simp] theorem State.dropReport_engine (s : State) :
    (State.dropReport s).engine =
      { s.engine with reports := s.engine.reports.tail, reportHead := .fresh } := rfl
@[simp] theorem State.dropReport_keeps (s : State) : (State.dropReport s).pending = s.pending ∧ (State.dropReport
    s).sched = s.sched ∧ (State.dropReport s).raised = s.raised ∧ (State.dropReport s).pins = s.pins ∧
    (State.dropReport s).power = s.power ∧ (State.dropReport s).host = s.host ∧ (State.dropReport s).addr = s.addr ∧
    (State.dropReport s).streams = s.streams ∧ (State.dropReport s).map = s.map ∧ (State.dropReport s).ilu = s.ilu ∧
    (State.dropReport s).xmm = s.xmm ∧ (State.dropReport s).gate = s.gate ∧ (State.dropReport s).inbound = s.inbound
    ∧ (State.dropReport s).notices = s.notices ∧ (State.dropReport s).log = s.log ∧ (State.dropReport s).settings =
    s.settings ∧ (State.dropReport s).out = s.out := by and_intros <;> rfl

@[simp] theorem State.setReportHead_engine (h : HeadOffer) (s : State) :
    (State.setReportHead h s).engine =
      { s.engine with reportHead := h } := rfl
@[simp] theorem State.setReportHead_keeps (h : HeadOffer) (s : State) : (State.setReportHead h s).pending =
    s.pending ∧ (State.setReportHead h s).sched = s.sched ∧ (State.setReportHead h s).raised = s.raised ∧
    (State.setReportHead h s).pins = s.pins ∧ (State.setReportHead h s).power = s.power ∧ (State.setReportHead h
    s).host = s.host ∧ (State.setReportHead h s).addr = s.addr ∧ (State.setReportHead h s).streams = s.streams ∧
    (State.setReportHead h s).map = s.map ∧ (State.setReportHead h s).ilu = s.ilu ∧ (State.setReportHead h s).xmm =
    s.xmm ∧ (State.setReportHead h s).gate = s.gate ∧ (State.setReportHead h s).inbound = s.inbound ∧
    (State.setReportHead h s).notices = s.notices ∧ (State.setReportHead h s).log = s.log ∧ (State.setReportHead h
    s).settings = s.settings ∧ (State.setReportHead h s).out = s.out := by and_intros <;> rfl

@[simp] theorem State.setGateEntry_gate (i : Fin 8) (g : GateEntry) (s : State) :
    (State.setGateEntry i g s).gate =
      s.gate.set i.val g := rfl
@[simp] theorem State.setGateEntry_keeps (i : Fin 8) (g : GateEntry) (s : State) : (State.setGateEntry i g
    s).pending = s.pending ∧ (State.setGateEntry i g s).sched = s.sched ∧ (State.setGateEntry i g s).raised =
    s.raised ∧ (State.setGateEntry i g s).pins = s.pins ∧ (State.setGateEntry i g s).power = s.power ∧
    (State.setGateEntry i g s).host = s.host ∧ (State.setGateEntry i g s).addr = s.addr ∧ (State.setGateEntry i g
    s).streams = s.streams ∧ (State.setGateEntry i g s).map = s.map ∧ (State.setGateEntry i g s).engine = s.engine ∧
    (State.setGateEntry i g s).ilu = s.ilu ∧ (State.setGateEntry i g s).xmm = s.xmm ∧ (State.setGateEntry i g
    s).inbound = s.inbound ∧ (State.setGateEntry i g s).notices = s.notices ∧ (State.setGateEntry i g s).log = s.log
    ∧ (State.setGateEntry i g s).settings = s.settings ∧ (State.setGateEntry i g s).out = s.out := by and_intros <;>
    rfl

@[simp] theorem State.setInbound_inbound (i : Inbound) (s : State) :
    (State.setInbound i s).inbound =
      i := rfl
@[simp] theorem State.setInbound_keeps (i : Inbound) (s : State) : (State.setInbound i s).pending = s.pending ∧
    (State.setInbound i s).sched = s.sched ∧ (State.setInbound i s).raised = s.raised ∧ (State.setInbound i s).pins
    = s.pins ∧ (State.setInbound i s).power = s.power ∧ (State.setInbound i s).host = s.host ∧ (State.setInbound i
    s).addr = s.addr ∧ (State.setInbound i s).streams = s.streams ∧ (State.setInbound i s).map = s.map ∧
    (State.setInbound i s).engine = s.engine ∧ (State.setInbound i s).ilu = s.ilu ∧ (State.setInbound i s).xmm =
    s.xmm ∧ (State.setInbound i s).gate = s.gate ∧ (State.setInbound i s).notices = s.notices ∧ (State.setInbound i
    s).log = s.log ∧ (State.setInbound i s).settings = s.settings ∧ (State.setInbound i s).out = s.out := by
    and_intros <;> rfl

@[simp] theorem State.setMem_xmm (m : Memory) (s : State) :
    (State.setMem m s).xmm =
      { s.xmm with mem := m } := rfl
@[simp] theorem State.setMem_keeps (m : Memory) (s : State) : (State.setMem m s).pending = s.pending ∧ (State.setMem
    m s).sched = s.sched ∧ (State.setMem m s).raised = s.raised ∧ (State.setMem m s).pins = s.pins ∧ (State.setMem m
    s).power = s.power ∧ (State.setMem m s).host = s.host ∧ (State.setMem m s).addr = s.addr ∧ (State.setMem m
    s).streams = s.streams ∧ (State.setMem m s).map = s.map ∧ (State.setMem m s).engine = s.engine ∧ (State.setMem m
    s).ilu = s.ilu ∧ (State.setMem m s).gate = s.gate ∧ (State.setMem m s).inbound = s.inbound ∧ (State.setMem m
    s).notices = s.notices ∧ (State.setMem m s).log = s.log ∧ (State.setMem m s).settings = s.settings ∧
    (State.setMem m s).out = s.out := by and_intros <;> rfl

@[simp] theorem State.reply_out (r : Option Receipt) (s : State) :
    (State.reply r s).out =
      { s.out with receipt := r } := rfl
@[simp] theorem State.reply_keeps (r : Option Receipt) (s : State) : (State.reply r s).pending = s.pending ∧
    (State.reply r s).sched = s.sched ∧ (State.reply r s).raised = s.raised ∧ (State.reply r s).pins = s.pins ∧
    (State.reply r s).power = s.power ∧ (State.reply r s).host = s.host ∧ (State.reply r s).addr = s.addr ∧
    (State.reply r s).streams = s.streams ∧ (State.reply r s).map = s.map ∧ (State.reply r s).engine = s.engine ∧
    (State.reply r s).ilu = s.ilu ∧ (State.reply r s).xmm = s.xmm ∧ (State.reply r s).gate = s.gate ∧ (State.reply r
    s).inbound = s.inbound ∧ (State.reply r s).notices = s.notices ∧ (State.reply r s).log = s.log ∧ (State.reply r
    s).settings = s.settings := by and_intros <;> rfl

@[simp] theorem State.emit_out (p : SpanPacket) (s : State) :
    (State.emit p s).out =
      { s.out with packet := some p } := rfl
@[simp] theorem State.emit_keeps (p : SpanPacket) (s : State) : (State.emit p s).pending = s.pending ∧ (State.emit p
    s).sched = s.sched ∧ (State.emit p s).raised = s.raised ∧ (State.emit p s).pins = s.pins ∧ (State.emit p
    s).power = s.power ∧ (State.emit p s).host = s.host ∧ (State.emit p s).addr = s.addr ∧ (State.emit p s).streams
    = s.streams ∧ (State.emit p s).map = s.map ∧ (State.emit p s).engine = s.engine ∧ (State.emit p s).ilu = s.ilu ∧
    (State.emit p s).xmm = s.xmm ∧ (State.emit p s).gate = s.gate ∧ (State.emit p s).inbound = s.inbound ∧
    (State.emit p s).notices = s.notices ∧ (State.emit p s).log = s.log ∧ (State.emit p s).settings = s.settings :=
    by and_intros <;> rfl

@[simp] theorem State.setPhase_sched (p : Phase) (s : State) :
    (State.setPhase p s).sched =
      { s.sched with phase := p } := rfl
@[simp] theorem State.setPhase_keeps (p : Phase) (s : State) : (State.setPhase p s).pending = s.pending ∧
    (State.setPhase p s).raised = s.raised ∧ (State.setPhase p s).pins = s.pins ∧ (State.setPhase p s).power =
    s.power ∧ (State.setPhase p s).host = s.host ∧ (State.setPhase p s).addr = s.addr ∧ (State.setPhase p s).streams
    = s.streams ∧ (State.setPhase p s).map = s.map ∧ (State.setPhase p s).engine = s.engine ∧ (State.setPhase p
    s).ilu = s.ilu ∧ (State.setPhase p s).xmm = s.xmm ∧ (State.setPhase p s).gate = s.gate ∧ (State.setPhase p
    s).inbound = s.inbound ∧ (State.setPhase p s).notices = s.notices ∧ (State.setPhase p s).log = s.log ∧
    (State.setPhase p s).settings = s.settings ∧ (State.setPhase p s).out = s.out := by and_intros <;> rfl

@[simp] theorem State.startTimers_sched (s : State) :
    (State.startTimers s).sched =
      { s.sched with phase := .timers, tick := s.sched.tick + 1, onGrid := true } := rfl
@[simp] theorem State.startTimers_keeps (s : State) : (State.startTimers s).pending = s.pending ∧ (State.startTimers
    s).raised = s.raised ∧ (State.startTimers s).pins = s.pins ∧ (State.startTimers s).power = s.power ∧
    (State.startTimers s).host = s.host ∧ (State.startTimers s).addr = s.addr ∧ (State.startTimers s).streams =
    s.streams ∧ (State.startTimers s).map = s.map ∧ (State.startTimers s).engine = s.engine ∧ (State.startTimers
    s).ilu = s.ilu ∧ (State.startTimers s).xmm = s.xmm ∧ (State.startTimers s).gate = s.gate ∧ (State.startTimers
    s).inbound = s.inbound ∧ (State.startTimers s).notices = s.notices ∧ (State.startTimers s).log = s.log ∧
    (State.startTimers s).settings = s.settings ∧ (State.startTimers s).out = s.out := by and_intros <;> rfl

@[simp] theorem State.endStep_sched (s : State) :
    (State.endStep s).sched =
      { s.sched with phase := .between, onGrid := false, grants := 0 } := rfl
@[simp] theorem State.endStep_keeps (s : State) : (State.endStep s).pending = s.pending ∧ (State.endStep s).raised =
    s.raised ∧ (State.endStep s).pins = s.pins ∧ (State.endStep s).power = s.power ∧ (State.endStep s).host = s.host
    ∧ (State.endStep s).addr = s.addr ∧ (State.endStep s).streams = s.streams ∧ (State.endStep s).map = s.map ∧
    (State.endStep s).engine = s.engine ∧ (State.endStep s).ilu = s.ilu ∧ (State.endStep s).xmm = s.xmm ∧
    (State.endStep s).gate = s.gate ∧ (State.endStep s).inbound = s.inbound ∧ (State.endStep s).notices = s.notices
    ∧ (State.endStep s).log = s.log ∧ (State.endStep s).settings = s.settings ∧ (State.endStep s).out = s.out := by
    and_intros <;> rfl

@[simp] theorem State.setHost_host (h : HostPort) (s : State) :
    (State.setHost h s).host =
      h := rfl
@[simp] theorem State.setHost_keeps (h : HostPort) (s : State) : (State.setHost h s).pending = s.pending ∧
    (State.setHost h s).sched = s.sched ∧ (State.setHost h s).raised = s.raised ∧ (State.setHost h s).pins = s.pins
    ∧ (State.setHost h s).power = s.power ∧ (State.setHost h s).addr = s.addr ∧ (State.setHost h s).streams =
    s.streams ∧ (State.setHost h s).map = s.map ∧ (State.setHost h s).engine = s.engine ∧ (State.setHost h s).ilu =
    s.ilu ∧ (State.setHost h s).xmm = s.xmm ∧ (State.setHost h s).gate = s.gate ∧ (State.setHost h s).inbound =
    s.inbound ∧ (State.setHost h s).notices = s.notices ∧ (State.setHost h s).log = s.log ∧ (State.setHost h
    s).settings = s.settings ∧ (State.setHost h s).out = s.out := by and_intros <;> rfl

@[simp] theorem State.setSpanLine_pins (asserted : Bool) (s : State) :
    (State.setSpanLine asserted s).pins =
      { s.pins with spanReset := asserted } := rfl
@[simp] theorem State.setSpanLine_keeps (asserted : Bool) (s : State) : (State.setSpanLine asserted s).pending =
    s.pending ∧ (State.setSpanLine asserted s).sched = s.sched ∧ (State.setSpanLine asserted s).raised = s.raised ∧
    (State.setSpanLine asserted s).power = s.power ∧ (State.setSpanLine asserted s).host = s.host ∧
    (State.setSpanLine asserted s).addr = s.addr ∧ (State.setSpanLine asserted s).streams = s.streams ∧
    (State.setSpanLine asserted s).map = s.map ∧ (State.setSpanLine asserted s).engine = s.engine ∧
    (State.setSpanLine asserted s).ilu = s.ilu ∧ (State.setSpanLine asserted s).xmm = s.xmm ∧ (State.setSpanLine
    asserted s).gate = s.gate ∧ (State.setSpanLine asserted s).inbound = s.inbound ∧ (State.setSpanLine asserted
    s).notices = s.notices ∧ (State.setSpanLine asserted s).log = s.log ∧ (State.setSpanLine asserted s).settings =
    s.settings ∧ (State.setSpanLine asserted s).out = s.out := by and_intros <;> rfl

@[simp] theorem State.setAsleep_power (asleep : Bool) (s : State) :
    (State.setAsleep asleep s).power =
      { s.power with asleep := asleep } := rfl
@[simp] theorem State.setAsleep_keeps (asleep : Bool) (s : State) : (State.setAsleep asleep s).pending = s.pending ∧
    (State.setAsleep asleep s).sched = s.sched ∧ (State.setAsleep asleep s).raised = s.raised ∧ (State.setAsleep
    asleep s).pins = s.pins ∧ (State.setAsleep asleep s).host = s.host ∧ (State.setAsleep asleep s).addr = s.addr ∧
    (State.setAsleep asleep s).streams = s.streams ∧ (State.setAsleep asleep s).map = s.map ∧ (State.setAsleep
    asleep s).engine = s.engine ∧ (State.setAsleep asleep s).ilu = s.ilu ∧ (State.setAsleep asleep s).xmm = s.xmm ∧
    (State.setAsleep asleep s).gate = s.gate ∧ (State.setAsleep asleep s).inbound = s.inbound ∧ (State.setAsleep
    asleep s).notices = s.notices ∧ (State.setAsleep asleep s).log = s.log ∧ (State.setAsleep asleep s).settings =
    s.settings ∧ (State.setAsleep asleep s).out = s.out := by and_intros <;> rfl

@[simp] theorem State.drive_out (b : Byte) (s : State) :
    (State.drive b s).out =
      { s.out with hostData := some b } := rfl
@[simp] theorem State.drive_keeps (b : Byte) (s : State) : (State.drive b s).pending = s.pending ∧ (State.drive b
    s).sched = s.sched ∧ (State.drive b s).raised = s.raised ∧ (State.drive b s).pins = s.pins ∧ (State.drive b
    s).power = s.power ∧ (State.drive b s).host = s.host ∧ (State.drive b s).addr = s.addr ∧ (State.drive b
    s).streams = s.streams ∧ (State.drive b s).map = s.map ∧ (State.drive b s).engine = s.engine ∧ (State.drive b
    s).ilu = s.ilu ∧ (State.drive b s).xmm = s.xmm ∧ (State.drive b s).gate = s.gate ∧ (State.drive b s).inbound =
    s.inbound ∧ (State.drive b s).notices = s.notices ∧ (State.drive b s).log = s.log ∧ (State.drive b s).settings =
    s.settings := by and_intros <;> rfl

@[simp] theorem State.select_pins (b : Bool) (s : State) :
    (State.select b s).pins =
      { s.pins with selected := b } := rfl
@[simp] theorem State.select_keeps (b : Bool) (s : State) : (State.select b s).pending = s.pending ∧ (State.select b
    s).sched = s.sched ∧ (State.select b s).raised = s.raised ∧ (State.select b s).power = s.power ∧ (State.select b
    s).host = s.host ∧ (State.select b s).addr = s.addr ∧ (State.select b s).streams = s.streams ∧ (State.select b
    s).map = s.map ∧ (State.select b s).engine = s.engine ∧ (State.select b s).ilu = s.ilu ∧ (State.select b s).xmm
    = s.xmm ∧ (State.select b s).gate = s.gate ∧ (State.select b s).inbound = s.inbound ∧ (State.select b s).notices
    = s.notices ∧ (State.select b s).log = s.log ∧ (State.select b s).settings = s.settings ∧ (State.select b s).out
    = s.out := by and_intros <;> rfl

@[simp] theorem State.setLevels_pins (levels : Node) (s : State) :
    (State.setLevels levels s).pins =
      { s.pins with strapLevels := levels } := rfl
@[simp] theorem State.setLevels_keeps (levels : Node) (s : State) : (State.setLevels levels s).pending = s.pending ∧
    (State.setLevels levels s).sched = s.sched ∧ (State.setLevels levels s).raised = s.raised ∧ (State.setLevels
    levels s).power = s.power ∧ (State.setLevels levels s).host = s.host ∧ (State.setLevels levels s).addr = s.addr
    ∧ (State.setLevels levels s).streams = s.streams ∧ (State.setLevels levels s).map = s.map ∧ (State.setLevels
    levels s).engine = s.engine ∧ (State.setLevels levels s).ilu = s.ilu ∧ (State.setLevels levels s).xmm = s.xmm ∧
    (State.setLevels levels s).gate = s.gate ∧ (State.setLevels levels s).inbound = s.inbound ∧ (State.setLevels
    levels s).notices = s.notices ∧ (State.setLevels levels s).log = s.log ∧ (State.setLevels levels s).settings =
    s.settings ∧ (State.setLevels levels s).out = s.out := by and_intros <;> rfl

@[simp] theorem State.setClaimLine_pins (asserted : Bool) (s : State) :
    (State.setClaimLine asserted s).pins =
      { s.pins with claimOthers := asserted } := rfl
@[simp] theorem State.setClaimLine_keeps (asserted : Bool) (s : State) : (State.setClaimLine asserted s).pending =
    s.pending ∧ (State.setClaimLine asserted s).sched = s.sched ∧ (State.setClaimLine asserted s).raised = s.raised
    ∧ (State.setClaimLine asserted s).power = s.power ∧ (State.setClaimLine asserted s).host = s.host ∧
    (State.setClaimLine asserted s).addr = s.addr ∧ (State.setClaimLine asserted s).streams = s.streams ∧
    (State.setClaimLine asserted s).map = s.map ∧ (State.setClaimLine asserted s).engine = s.engine ∧
    (State.setClaimLine asserted s).ilu = s.ilu ∧ (State.setClaimLine asserted s).xmm = s.xmm ∧ (State.setClaimLine
    asserted s).gate = s.gate ∧ (State.setClaimLine asserted s).inbound = s.inbound ∧ (State.setClaimLine asserted
    s).notices = s.notices ∧ (State.setClaimLine asserted s).log = s.log ∧ (State.setClaimLine asserted s).settings
    = s.settings ∧ (State.setClaimLine asserted s).out = s.out := by and_intros <;> rfl

end Sys2Proof.Machine
end

