-- ==== Sys2Proof/Laws/Frames.lean ====
section
/-! SUPPORT. Every shared operation: the fields of State that it never changes. -/

namespace Sys2Proof.Machine

@[simp] theorem State.logBatch_keeps (s : State) : (State.logBatch s).pending = s.pending ∧ (State.logBatch s).sched
    = s.sched ∧ (State.logBatch s).pins = s.pins ∧ (State.logBatch s).power = s.power ∧ (State.logBatch s).host =
    s.host ∧ (State.logBatch s).addr = s.addr ∧ (State.logBatch s).streams = s.streams ∧ (State.logBatch s).map =
    s.map ∧ (State.logBatch s).engine = s.engine ∧ (State.logBatch s).ilu = s.ilu ∧ (State.logBatch s).xmm = s.xmm ∧
    (State.logBatch s).gate = s.gate ∧ (State.logBatch s).inbound = s.inbound ∧ (State.logBatch s).notices =
    s.notices ∧ (State.logBatch s).settings = s.settings ∧ (State.logBatch s).out = s.out := by
  and_intros <;> first | rfl | (simp only [State.logBatch]; (repeat' split) <;> simp)

@[simp] theorem State.place_keeps (r : Request) (s : State) : (State.place r s).pending = s.pending ∧ (State.place r
    s).sched = s.sched ∧ (State.place r s).raised = s.raised ∧ (State.place r s).pins = s.pins ∧ (State.place r
    s).power = s.power ∧ (State.place r s).host = s.host ∧ (State.place r s).addr = s.addr ∧ (State.place r s).map =
    s.map ∧ (State.place r s).ilu = s.ilu ∧ (State.place r s).xmm = s.xmm ∧ (State.place r s).gate = s.gate ∧
    (State.place r s).inbound = s.inbound ∧ (State.place r s).notices = s.notices ∧ (State.place r s).log = s.log ∧
    (State.place r s).settings = s.settings ∧ (State.place r s).out = s.out := by
  and_intros <;> first | rfl | (simp only [State.place]; (repeat' split) <;> simp)

@[simp] theorem State.enterStaged_keeps (s : State) : (State.enterStaged s).pending = s.pending ∧ (State.enterStaged
    s).sched = s.sched ∧ (State.enterStaged s).raised = s.raised ∧ (State.enterStaged s).pins = s.pins ∧
    (State.enterStaged s).power = s.power ∧ (State.enterStaged s).host = s.host ∧ (State.enterStaged s).addr =
    s.addr ∧ (State.enterStaged s).map = s.map ∧ (State.enterStaged s).ilu = s.ilu ∧ (State.enterStaged s).xmm =
    s.xmm ∧ (State.enterStaged s).gate = s.gate ∧ (State.enterStaged s).inbound = s.inbound ∧ (State.enterStaged
    s).notices = s.notices ∧ (State.enterStaged s).log = s.log ∧ (State.enterStaged s).settings = s.settings ∧
    (State.enterStaged s).out = s.out := by
  and_intros <;> first | rfl | (simp only [State.enterStaged]; (repeat' split) <;> simp)

@[simp] theorem State.entryFreed_keeps (s : State) : (State.entryFreed s).pending = s.pending ∧ (State.entryFreed
    s).sched = s.sched ∧ (State.entryFreed s).raised = s.raised ∧ (State.entryFreed s).pins = s.pins ∧
    (State.entryFreed s).power = s.power ∧ (State.entryFreed s).host = s.host ∧ (State.entryFreed s).addr = s.addr ∧
    (State.entryFreed s).map = s.map ∧ (State.entryFreed s).ilu = s.ilu ∧ (State.entryFreed s).xmm = s.xmm ∧
    (State.entryFreed s).gate = s.gate ∧ (State.entryFreed s).inbound = s.inbound ∧ (State.entryFreed s).notices =
    s.notices ∧ (State.entryFreed s).log = s.log ∧ (State.entryFreed s).settings = s.settings ∧ (State.entryFreed
    s).out = s.out := by
  and_intros <;> first | rfl | (simp only [State.entryFreed]; (repeat' split) <;> simp)

@[simp] theorem State.setTag?_keeps (t : Option Tag) (st : TagState) (s : State) : (State.setTag? t st s).pending =
    s.pending ∧ (State.setTag? t st s).sched = s.sched ∧ (State.setTag? t st s).raised = s.raised ∧ (State.setTag? t
    st s).pins = s.pins ∧ (State.setTag? t st s).power = s.power ∧ (State.setTag? t st s).host = s.host ∧
    (State.setTag? t st s).addr = s.addr ∧ (State.setTag? t st s).streams = s.streams ∧ (State.setTag? t st s).map =
    s.map ∧ (State.setTag? t st s).ilu = s.ilu ∧ (State.setTag? t st s).xmm = s.xmm ∧ (State.setTag? t st s).gate =
    s.gate ∧ (State.setTag? t st s).inbound = s.inbound ∧ (State.setTag? t st s).notices = s.notices ∧
    (State.setTag? t st s).log = s.log ∧ (State.setTag? t st s).settings = s.settings ∧ (State.setTag? t st s).out =
    s.out := by
  and_intros <;> first | rfl | (simp only [State.setTag?]; (repeat' split) <;> simp)

@[simp] theorem State.quarantine_keeps (t : Tag) (s : State) : (State.quarantine t s).pending = s.pending ∧
    (State.quarantine t s).sched = s.sched ∧ (State.quarantine t s).raised = s.raised ∧ (State.quarantine t s).pins
    = s.pins ∧ (State.quarantine t s).power = s.power ∧ (State.quarantine t s).host = s.host ∧ (State.quarantine t
    s).addr = s.addr ∧ (State.quarantine t s).streams = s.streams ∧ (State.quarantine t s).map = s.map ∧
    (State.quarantine t s).ilu = s.ilu ∧ (State.quarantine t s).xmm = s.xmm ∧ (State.quarantine t s).gate = s.gate ∧
    (State.quarantine t s).inbound = s.inbound ∧ (State.quarantine t s).notices = s.notices ∧ (State.quarantine t
    s).log = s.log ∧ (State.quarantine t s).settings = s.settings ∧ (State.quarantine t s).out = s.out := by
  and_intros <;> rfl

@[simp] theorem State.fetchResult_keeps (serial : Nat) (data : Option (List Byte)) (s : State) : (State.fetchResult
    serial data s).pending = s.pending ∧ (State.fetchResult serial data s).sched = s.sched ∧ (State.fetchResult
    serial data s).raised = s.raised ∧ (State.fetchResult serial data s).pins = s.pins ∧ (State.fetchResult serial
    data s).power = s.power ∧ (State.fetchResult serial data s).host = s.host ∧ (State.fetchResult serial data
    s).addr = s.addr ∧ (State.fetchResult serial data s).map = s.map ∧ (State.fetchResult serial data s).engine =
    s.engine ∧ (State.fetchResult serial data s).ilu = s.ilu ∧ (State.fetchResult serial data s).xmm = s.xmm ∧
    (State.fetchResult serial data s).gate = s.gate ∧ (State.fetchResult serial data s).inbound = s.inbound ∧
    (State.fetchResult serial data s).notices = s.notices ∧ (State.fetchResult serial data s).log = s.log ∧
    (State.fetchResult serial data s).settings = s.settings ∧ (State.fetchResult serial data s).out = s.out := by
  and_intros <;> first | rfl | (simp only [State.fetchResult]; (repeat' split) <;> simp)

@[simp] theorem State.raiseUnless_keeps (silent : Bool) (f : FaultRecord) (s : State) : (State.raiseUnless silent f
    s).pending = s.pending ∧ (State.raiseUnless silent f s).sched = s.sched ∧ (State.raiseUnless silent f s).pins =
    s.pins ∧ (State.raiseUnless silent f s).power = s.power ∧ (State.raiseUnless silent f s).host = s.host ∧
    (State.raiseUnless silent f s).addr = s.addr ∧ (State.raiseUnless silent f s).streams = s.streams ∧
    (State.raiseUnless silent f s).map = s.map ∧ (State.raiseUnless silent f s).engine = s.engine ∧
    (State.raiseUnless silent f s).ilu = s.ilu ∧ (State.raiseUnless silent f s).xmm = s.xmm ∧ (State.raiseUnless
    silent f s).gate = s.gate ∧ (State.raiseUnless silent f s).inbound = s.inbound ∧ (State.raiseUnless silent f
    s).notices = s.notices ∧ (State.raiseUnless silent f s).log = s.log ∧ (State.raiseUnless silent f s).settings =
    s.settings ∧ (State.raiseUnless silent f s).out = s.out := by
  and_intros <;> first | rfl | (simp only [State.raiseUnless]; (repeat' split) <;> simp)

@[simp] theorem State.resolve_keeps (e : MapEntry) (offset : Byte) (kind : AccessKind) (silent : Bool) (wpage
    woffset : Byte) (s : State) : (State.resolve e offset kind silent wpage woffset s).1.pending = s.pending ∧
    (State.resolve e offset kind silent wpage woffset s).1.sched = s.sched ∧ (State.resolve e offset kind silent
    wpage woffset s).1.pins = s.pins ∧ (State.resolve e offset kind silent wpage woffset s).1.power = s.power ∧
    (State.resolve e offset kind silent wpage woffset s).1.host = s.host ∧ (State.resolve e offset kind silent wpage
    woffset s).1.addr = s.addr ∧ (State.resolve e offset kind silent wpage woffset s).1.streams = s.streams ∧
    (State.resolve e offset kind silent wpage woffset s).1.map = s.map ∧ (State.resolve e offset kind silent wpage
    woffset s).1.engine = s.engine ∧ (State.resolve e offset kind silent wpage woffset s).1.ilu = s.ilu ∧
    (State.resolve e offset kind silent wpage woffset s).1.xmm = s.xmm ∧ (State.resolve e offset kind silent wpage
    woffset s).1.gate = s.gate ∧ (State.resolve e offset kind silent wpage woffset s).1.inbound = s.inbound ∧
    (State.resolve e offset kind silent wpage woffset s).1.notices = s.notices ∧ (State.resolve e offset kind silent
    wpage woffset s).1.log = s.log ∧ (State.resolve e offset kind silent wpage woffset s).1.settings = s.settings ∧
    (State.resolve e offset kind silent wpage woffset s).1.out = s.out := by
  and_intros <;> first | rfl | (simp only [State.resolve]; (repeat' split) <;> simp)

@[simp] theorem State.translate_keeps (page offset : Byte) (kind : AccessKind) (silent : Bool) (wpage woffset :
    Byte) (s : State) : (State.translate page offset kind silent wpage woffset s).1.pending = s.pending ∧
    (State.translate page offset kind silent wpage woffset s).1.sched = s.sched ∧ (State.translate page offset kind
    silent wpage woffset s).1.pins = s.pins ∧ (State.translate page offset kind silent wpage woffset s).1.power =
    s.power ∧ (State.translate page offset kind silent wpage woffset s).1.host = s.host ∧ (State.translate page
    offset kind silent wpage woffset s).1.addr = s.addr ∧ (State.translate page offset kind silent wpage woffset
    s).1.streams = s.streams ∧ (State.translate page offset kind silent wpage woffset s).1.engine = s.engine ∧
    (State.translate page offset kind silent wpage woffset s).1.ilu = s.ilu ∧ (State.translate page offset kind
    silent wpage woffset s).1.xmm = s.xmm ∧ (State.translate page offset kind silent wpage woffset s).1.gate =
    s.gate ∧ (State.translate page offset kind silent wpage woffset s).1.inbound = s.inbound ∧ (State.translate page
    offset kind silent wpage woffset s).1.notices = s.notices ∧ (State.translate page offset kind silent wpage
    woffset s).1.log = s.log ∧ (State.translate page offset kind silent wpage woffset s).1.settings = s.settings ∧
    (State.translate page offset kind silent wpage woffset s).1.out = s.out := by
  and_intros <;> first | rfl | (simp only [State.translate]; (repeat' split) <;> simp)

@[simp] theorem State.readMapEntry_keeps (index : Byte) (s : State) : (State.readMapEntry index s).1.pending =
    s.pending ∧ (State.readMapEntry index s).1.sched = s.sched ∧ (State.readMapEntry index s).1.pins = s.pins ∧
    (State.readMapEntry index s).1.power = s.power ∧ (State.readMapEntry index s).1.host = s.host ∧
    (State.readMapEntry index s).1.addr = s.addr ∧ (State.readMapEntry index s).1.streams = s.streams ∧
    (State.readMapEntry index s).1.engine = s.engine ∧ (State.readMapEntry index s).1.ilu = s.ilu ∧
    (State.readMapEntry index s).1.xmm = s.xmm ∧ (State.readMapEntry index s).1.gate = s.gate ∧ (State.readMapEntry
    index s).1.inbound = s.inbound ∧ (State.readMapEntry index s).1.notices = s.notices ∧ (State.readMapEntry index
    s).1.log = s.log ∧ (State.readMapEntry index s).1.settings = s.settings ∧ (State.readMapEntry index s).1.out =
    s.out := by
  and_intros <;> first | rfl | (simp only [State.readMapEntry]; (repeat' split) <;> simp)

@[simp] theorem State.upset_keeps (page : Byte) (position : Fin 43) (s : State) : (State.upset page position
    s).pending = s.pending ∧ (State.upset page position s).sched = s.sched ∧ (State.upset page position s).raised =
    s.raised ∧ (State.upset page position s).pins = s.pins ∧ (State.upset page position s).power = s.power ∧
    (State.upset page position s).host = s.host ∧ (State.upset page position s).addr = s.addr ∧ (State.upset page
    position s).streams = s.streams ∧ (State.upset page position s).engine = s.engine ∧ (State.upset page position
    s).ilu = s.ilu ∧ (State.upset page position s).xmm = s.xmm ∧ (State.upset page position s).gate = s.gate ∧
    (State.upset page position s).inbound = s.inbound ∧ (State.upset page position s).notices = s.notices ∧
    (State.upset page position s).log = s.log ∧ (State.upset page position s).settings = s.settings ∧ (State.upset
    page position s).out = s.out := by
  and_intros <;> rfl

@[simp] theorem State.seal_keeps (s : State) : (State.seal s).pending = s.pending ∧ (State.seal s).pins = s.pins ∧
    (State.seal s).power = s.power ∧ (State.seal s).host = s.host ∧ (State.seal s).addr = s.addr ∧ (State.seal
    s).ilu = s.ilu ∧ (State.seal s).xmm = s.xmm ∧ (State.seal s).gate = s.gate ∧ (State.seal s).inbound = s.inbound
    ∧ (State.seal s).notices = s.notices ∧ (State.seal s).log = s.log ∧ (State.seal s).settings = s.settings ∧
    (State.seal s).out = s.out := by
  and_intros <;> first | rfl | (simp only [State.seal]; (repeat' split) <;> simp)

@[simp] theorem State.sealOther_keeps (s : State) : (State.sealOther s).pending = s.pending ∧ (State.sealOther
    s).pins = s.pins ∧ (State.sealOther s).power = s.power ∧ (State.sealOther s).host = s.host ∧ (State.sealOther
    s).addr = s.addr ∧ (State.sealOther s).ilu = s.ilu ∧ (State.sealOther s).xmm = s.xmm ∧ (State.sealOther s).gate
    = s.gate ∧ (State.sealOther s).inbound = s.inbound ∧ (State.sealOther s).notices = s.notices ∧ (State.sealOther
    s).log = s.log ∧ (State.sealOther s).settings = s.settings ∧ (State.sealOther s).out = s.out := by
  and_intros <;> first | rfl | (simp only [State.sealOther]; (repeat' split) <;> simp)

@[simp] theorem State.mergeByte_keeps (b : Byte) (s : State) : (State.mergeByte b s).pending = s.pending ∧
    (State.mergeByte b s).pins = s.pins ∧ (State.mergeByte b s).power = s.power ∧ (State.mergeByte b s).host =
    s.host ∧ (State.mergeByte b s).ilu = s.ilu ∧ (State.mergeByte b s).xmm = s.xmm ∧ (State.mergeByte b s).gate =
    s.gate ∧ (State.mergeByte b s).inbound = s.inbound ∧ (State.mergeByte b s).notices = s.notices ∧
    (State.mergeByte b s).log = s.log ∧ (State.mergeByte b s).settings = s.settings ∧ (State.mergeByte b s).out =
    s.out := by
  and_intros <;> first | rfl | (simp only [State.mergeByte]; (repeat' split) <;> simp)

@[simp] theorem State.demandFetch_keeps (s : State) : (State.demandFetch s).pending = s.pending ∧ (State.demandFetch
    s).pins = s.pins ∧ (State.demandFetch s).power = s.power ∧ (State.demandFetch s).host = s.host ∧
    (State.demandFetch s).addr = s.addr ∧ (State.demandFetch s).ilu = s.ilu ∧ (State.demandFetch s).xmm = s.xmm ∧
    (State.demandFetch s).gate = s.gate ∧ (State.demandFetch s).inbound = s.inbound ∧ (State.demandFetch s).notices
    = s.notices ∧ (State.demandFetch s).log = s.log ∧ (State.demandFetch s).settings = s.settings ∧
    (State.demandFetch s).out = s.out := by
  and_intros <;> first | rfl | (simp only [State.demandFetch]; (repeat' split) <;> simp)

@[simp] theorem State.lookAhead_keeps (s : State) : (State.lookAhead s).pending = s.pending ∧ (State.lookAhead
    s).pins = s.pins ∧ (State.lookAhead s).power = s.power ∧ (State.lookAhead s).host = s.host ∧ (State.lookAhead
    s).addr = s.addr ∧ (State.lookAhead s).ilu = s.ilu ∧ (State.lookAhead s).xmm = s.xmm ∧ (State.lookAhead s).gate
    = s.gate ∧ (State.lookAhead s).inbound = s.inbound ∧ (State.lookAhead s).notices = s.notices ∧ (State.lookAhead
    s).log = s.log ∧ (State.lookAhead s).settings = s.settings ∧ (State.lookAhead s).out = s.out := by
  and_intros <;> first | rfl | (simp only [State.lookAhead]; (repeat' split) <;> simp)

@[simp] theorem State.moveOn_keeps (s : State) : (State.moveOn s).pending = s.pending ∧ (State.moveOn s).pins =
    s.pins ∧ (State.moveOn s).power = s.power ∧ (State.moveOn s).host = s.host ∧ (State.moveOn s).addr = s.addr ∧
    (State.moveOn s).ilu = s.ilu ∧ (State.moveOn s).xmm = s.xmm ∧ (State.moveOn s).gate = s.gate ∧ (State.moveOn
    s).inbound = s.inbound ∧ (State.moveOn s).notices = s.notices ∧ (State.moveOn s).log = s.log ∧ (State.moveOn
    s).settings = s.settings ∧ (State.moveOn s).out = s.out := by
  and_intros <;> first | rfl | (simp only [State.moveOn]; (repeat' split) <;> simp)

@[simp] theorem State.stepAndMove_keeps (s : State) : (State.stepAndMove s).pending = s.pending ∧ (State.stepAndMove
    s).pins = s.pins ∧ (State.stepAndMove s).power = s.power ∧ (State.stepAndMove s).host = s.host ∧
    (State.stepAndMove s).ilu = s.ilu ∧ (State.stepAndMove s).xmm = s.xmm ∧ (State.stepAndMove s).gate = s.gate ∧
    (State.stepAndMove s).inbound = s.inbound ∧ (State.stepAndMove s).notices = s.notices ∧ (State.stepAndMove
    s).log = s.log ∧ (State.stepAndMove s).settings = s.settings ∧ (State.stepAndMove s).out = s.out := by
  and_intros <;> first | rfl | (simp only [State.stepAndMove]; (repeat' split) <;> simp)

@[simp] theorem State.openCurrent_keeps (s : State) : (State.openCurrent s).pending = s.pending ∧ (State.openCurrent
    s).sched = s.sched ∧ (State.openCurrent s).raised = s.raised ∧ (State.openCurrent s).pins = s.pins ∧
    (State.openCurrent s).power = s.power ∧ (State.openCurrent s).host = s.host ∧ (State.openCurrent s).addr =
    s.addr ∧ (State.openCurrent s).map = s.map ∧ (State.openCurrent s).engine = s.engine ∧ (State.openCurrent s).ilu
    = s.ilu ∧ (State.openCurrent s).xmm = s.xmm ∧ (State.openCurrent s).gate = s.gate ∧ (State.openCurrent
    s).inbound = s.inbound ∧ (State.openCurrent s).notices = s.notices ∧ (State.openCurrent s).log = s.log ∧
    (State.openCurrent s).settings = s.settings ∧ (State.openCurrent s).out = s.out := by
  and_intros <;> rfl

@[simp] theorem State.serveRead_keeps (s : State) : (State.serveRead s).1.pending = s.pending ∧ (State.serveRead
    s).1.pins = s.pins ∧ (State.serveRead s).1.power = s.power ∧ (State.serveRead s).1.host = s.host ∧
    (State.serveRead s).1.ilu = s.ilu ∧ (State.serveRead s).1.xmm = s.xmm ∧ (State.serveRead s).1.gate = s.gate ∧
    (State.serveRead s).1.inbound = s.inbound ∧ (State.serveRead s).1.notices = s.notices ∧ (State.serveRead
    s).1.log = s.log ∧ (State.serveRead s).1.settings = s.settings ∧ (State.serveRead s).1.out = s.out := by
  and_intros <;> first | rfl | (simp only [State.serveRead]; (repeat' split) <;> simp)

@[simp] theorem State.placeLock_keeps (r : Request) (s : State) : (State.placeLock r s).pending = s.pending ∧
    (State.placeLock r s).sched = s.sched ∧ (State.placeLock r s).raised = s.raised ∧ (State.placeLock r s).pins =
    s.pins ∧ (State.placeLock r s).power = s.power ∧ (State.placeLock r s).host = s.host ∧ (State.placeLock r
    s).addr = s.addr ∧ (State.placeLock r s).map = s.map ∧ (State.placeLock r s).xmm = s.xmm ∧ (State.placeLock r
    s).gate = s.gate ∧ (State.placeLock r s).inbound = s.inbound ∧ (State.placeLock r s).notices = s.notices ∧
    (State.placeLock r s).log = s.log ∧ (State.placeLock r s).settings = s.settings ∧ (State.placeLock r s).out =
    s.out := by
  and_intros <;> first | rfl | (simp only [State.placeLock]; (repeat' split) <;> simp)

@[simp] theorem State.placeWaiting_keeps (s : State) : (State.placeWaiting s).pending = s.pending ∧
    (State.placeWaiting s).sched = s.sched ∧ (State.placeWaiting s).raised = s.raised ∧ (State.placeWaiting s).pins
    = s.pins ∧ (State.placeWaiting s).power = s.power ∧ (State.placeWaiting s).host = s.host ∧ (State.placeWaiting
    s).addr = s.addr ∧ (State.placeWaiting s).map = s.map ∧ (State.placeWaiting s).xmm = s.xmm ∧ (State.placeWaiting
    s).gate = s.gate ∧ (State.placeWaiting s).inbound = s.inbound ∧ (State.placeWaiting s).notices = s.notices ∧
    (State.placeWaiting s).log = s.log ∧ (State.placeWaiting s).settings = s.settings ∧ (State.placeWaiting s).out =
    s.out := by
  and_intros <;> first | rfl | (simp only [State.placeWaiting]; (repeat' split) <;> simp)

@[simp] theorem State.lockNone_keeps (s : State) : (State.lockNone s).pending = s.pending ∧ (State.lockNone s).sched
    = s.sched ∧ (State.lockNone s).raised = s.raised ∧ (State.lockNone s).pins = s.pins ∧ (State.lockNone s).power =
    s.power ∧ (State.lockNone s).host = s.host ∧ (State.lockNone s).addr = s.addr ∧ (State.lockNone s).streams =
    s.streams ∧ (State.lockNone s).map = s.map ∧ (State.lockNone s).engine = s.engine ∧ (State.lockNone s).xmm =
    s.xmm ∧ (State.lockNone s).gate = s.gate ∧ (State.lockNone s).inbound = s.inbound ∧ (State.lockNone s).notices =
    s.notices ∧ (State.lockNone s).log = s.log ∧ (State.lockNone s).settings = s.settings ∧ (State.lockNone s).out =
    s.out := by
  and_intros <;> rfl

@[simp] theorem State.releaseClaim_keeps (s : State) : (State.releaseClaim s).pending = s.pending ∧
    (State.releaseClaim s).sched = s.sched ∧ (State.releaseClaim s).raised = s.raised ∧ (State.releaseClaim s).pins
    = s.pins ∧ (State.releaseClaim s).power = s.power ∧ (State.releaseClaim s).host = s.host ∧ (State.releaseClaim
    s).addr = s.addr ∧ (State.releaseClaim s).streams = s.streams ∧ (State.releaseClaim s).map = s.map ∧
    (State.releaseClaim s).engine = s.engine ∧ (State.releaseClaim s).xmm = s.xmm ∧ (State.releaseClaim s).gate =
    s.gate ∧ (State.releaseClaim s).inbound = s.inbound ∧ (State.releaseClaim s).notices = s.notices ∧
    (State.releaseClaim s).log = s.log ∧ (State.releaseClaim s).settings = s.settings ∧ (State.releaseClaim s).out =
    s.out := by
  and_intros <;> rfl

@[simp] theorem State.driveClaim_keeps (s : State) : (State.driveClaim s).pending = s.pending ∧ (State.driveClaim
    s).sched = s.sched ∧ (State.driveClaim s).raised = s.raised ∧ (State.driveClaim s).pins = s.pins ∧
    (State.driveClaim s).power = s.power ∧ (State.driveClaim s).host = s.host ∧ (State.driveClaim s).addr = s.addr ∧
    (State.driveClaim s).streams = s.streams ∧ (State.driveClaim s).map = s.map ∧ (State.driveClaim s).engine =
    s.engine ∧ (State.driveClaim s).xmm = s.xmm ∧ (State.driveClaim s).gate = s.gate ∧ (State.driveClaim s).inbound
    = s.inbound ∧ (State.driveClaim s).notices = s.notices ∧ (State.driveClaim s).log = s.log ∧ (State.driveClaim
    s).settings = s.settings ∧ (State.driveClaim s).out = s.out := by
  and_intros <;> rfl

@[simp] theorem State.assertionTest_keeps (s : State) : (State.assertionTest s).pending = s.pending ∧
    (State.assertionTest s).sched = s.sched ∧ (State.assertionTest s).raised = s.raised ∧ (State.assertionTest
    s).pins = s.pins ∧ (State.assertionTest s).power = s.power ∧ (State.assertionTest s).host = s.host ∧
    (State.assertionTest s).addr = s.addr ∧ (State.assertionTest s).streams = s.streams ∧ (State.assertionTest
    s).map = s.map ∧ (State.assertionTest s).engine = s.engine ∧ (State.assertionTest s).xmm = s.xmm ∧
    (State.assertionTest s).gate = s.gate ∧ (State.assertionTest s).inbound = s.inbound ∧ (State.assertionTest
    s).notices = s.notices ∧ (State.assertionTest s).log = s.log ∧ (State.assertionTest s).settings = s.settings ∧
    (State.assertionTest s).out = s.out := by
  and_intros <;> first | rfl | (simp only [State.assertionTest]; (repeat' split) <;> simp)

@[simp] theorem State.claimExam_keeps (s : State) : (State.claimExam s).pending = s.pending ∧ (State.claimExam
    s).sched = s.sched ∧ (State.claimExam s).raised = s.raised ∧ (State.claimExam s).pins = s.pins ∧
    (State.claimExam s).power = s.power ∧ (State.claimExam s).host = s.host ∧ (State.claimExam s).addr = s.addr ∧
    (State.claimExam s).streams = s.streams ∧ (State.claimExam s).map = s.map ∧ (State.claimExam s).engine =
    s.engine ∧ (State.claimExam s).xmm = s.xmm ∧ (State.claimExam s).gate = s.gate ∧ (State.claimExam s).inbound =
    s.inbound ∧ (State.claimExam s).notices = s.notices ∧ (State.claimExam s).log = s.log ∧ (State.claimExam
    s).settings = s.settings ∧ (State.claimExam s).out = s.out := by
  and_intros <;> first | rfl | (simp only [State.claimExam]; (repeat' split) <;> simp)

@[simp] theorem State.countHeld_keeps (serial : Nat) (s : State) : (State.countHeld serial s).pending = s.pending ∧
    (State.countHeld serial s).sched = s.sched ∧ (State.countHeld serial s).raised = s.raised ∧ (State.countHeld
    serial s).pins = s.pins ∧ (State.countHeld serial s).power = s.power ∧ (State.countHeld serial s).host = s.host
    ∧ (State.countHeld serial s).addr = s.addr ∧ (State.countHeld serial s).streams = s.streams ∧ (State.countHeld
    serial s).map = s.map ∧ (State.countHeld serial s).engine = s.engine ∧ (State.countHeld serial s).xmm = s.xmm ∧
    (State.countHeld serial s).gate = s.gate ∧ (State.countHeld serial s).inbound = s.inbound ∧ (State.countHeld
    serial s).notices = s.notices ∧ (State.countHeld serial s).log = s.log ∧ (State.countHeld serial s).settings =
    s.settings ∧ (State.countHeld serial s).out = s.out := by
  and_intros <;> first | rfl | (simp only [State.countHeld]; (repeat' split) <;> simp)

@[simp] theorem State.fetchLock_keeps (s : State) : (State.fetchLock s).pending = s.pending ∧ (State.fetchLock
    s).pins = s.pins ∧ (State.fetchLock s).power = s.power ∧ (State.fetchLock s).host = s.host ∧ (State.fetchLock
    s).addr = s.addr ∧ (State.fetchLock s).xmm = s.xmm ∧ (State.fetchLock s).gate = s.gate ∧ (State.fetchLock
    s).inbound = s.inbound ∧ (State.fetchLock s).notices = s.notices ∧ (State.fetchLock s).log = s.log ∧
    (State.fetchLock s).settings = s.settings ∧ (State.fetchLock s).out = s.out := by
  and_intros <;> first | rfl | (simp only [State.fetchLock]; (repeat' split) <;> simp)

@[simp] theorem State.trackLock_keeps (st : LockState) (s : State) : (State.trackLock st s).pending = s.pending ∧
    (State.trackLock st s).raised = s.raised ∧ (State.trackLock st s).pins = s.pins ∧ (State.trackLock st s).power =
    s.power ∧ (State.trackLock st s).host = s.host ∧ (State.trackLock st s).addr = s.addr ∧ (State.trackLock st
    s).streams = s.streams ∧ (State.trackLock st s).map = s.map ∧ (State.trackLock st s).engine = s.engine ∧
    (State.trackLock st s).xmm = s.xmm ∧ (State.trackLock st s).gate = s.gate ∧ (State.trackLock st s).inbound =
    s.inbound ∧ (State.trackLock st s).notices = s.notices ∧ (State.trackLock st s).log = s.log ∧ (State.trackLock
    st s).settings = s.settings ∧ (State.trackLock st s).out = s.out := by
  and_intros <;> rfl

@[simp] theorem State.storeUnlock_keeps (enables : Byte) (data : List Byte) (s : State) : (State.storeUnlock enables
    data s).pending = s.pending ∧ (State.storeUnlock enables data s).pins = s.pins ∧ (State.storeUnlock enables data
    s).power = s.power ∧ (State.storeUnlock enables data s).host = s.host ∧ (State.storeUnlock enables data s).addr
    = s.addr ∧ (State.storeUnlock enables data s).map = s.map ∧ (State.storeUnlock enables data s).xmm = s.xmm ∧
    (State.storeUnlock enables data s).gate = s.gate ∧ (State.storeUnlock enables data s).inbound = s.inbound ∧
    (State.storeUnlock enables data s).notices = s.notices ∧ (State.storeUnlock enables data s).log = s.log ∧
    (State.storeUnlock enables data s).settings = s.settings ∧ (State.storeUnlock enables data s).out = s.out := by
  and_intros <;> first | rfl | (simp only [State.storeUnlock]; (repeat' split) <;> simp)

@[simp] theorem State.releaseHeld_keeps (target : LockTarget) (s : State) : (State.releaseHeld target s).pending =
    s.pending ∧ (State.releaseHeld target s).raised = s.raised ∧ (State.releaseHeld target s).pins = s.pins ∧
    (State.releaseHeld target s).power = s.power ∧ (State.releaseHeld target s).host = s.host ∧ (State.releaseHeld
    target s).addr = s.addr ∧ (State.releaseHeld target s).map = s.map ∧ (State.releaseHeld target s).xmm = s.xmm ∧
    (State.releaseHeld target s).gate = s.gate ∧ (State.releaseHeld target s).inbound = s.inbound ∧
    (State.releaseHeld target s).notices = s.notices ∧ (State.releaseHeld target s).log = s.log ∧ (State.releaseHeld
    target s).settings = s.settings ∧ (State.releaseHeld target s).out = s.out := by
  and_intros <;> first | rfl | simp [State.releaseHeld]

@[simp] theorem State.releaseLock_keeps (s : State) : (State.releaseLock s).pending = s.pending ∧ (State.releaseLock
    s).pins = s.pins ∧ (State.releaseLock s).power = s.power ∧ (State.releaseLock s).host = s.host ∧
    (State.releaseLock s).addr = s.addr ∧ (State.releaseLock s).map = s.map ∧ (State.releaseLock s).xmm = s.xmm ∧
    (State.releaseLock s).gate = s.gate ∧ (State.releaseLock s).inbound = s.inbound ∧ (State.releaseLock s).notices
    = s.notices ∧ (State.releaseLock s).log = s.log ∧ (State.releaseLock s).settings = s.settings ∧
    (State.releaseLock s).out = s.out := by
  and_intros <;> first | rfl | (simp only [State.releaseLock]; (repeat' split) <;> simp)

@[simp] theorem State.lockGranted_keeps (status : DataStatus) (data : List Byte) (s : State) : (State.lockGranted
    status data s).pending = s.pending ∧ (State.lockGranted status data s).sched = s.sched ∧ (State.lockGranted
    status data s).raised = s.raised ∧ (State.lockGranted status data s).pins = s.pins ∧ (State.lockGranted status
    data s).power = s.power ∧ (State.lockGranted status data s).host = s.host ∧ (State.lockGranted status data
    s).addr = s.addr ∧ (State.lockGranted status data s).streams = s.streams ∧ (State.lockGranted status data s).map
    = s.map ∧ (State.lockGranted status data s).engine = s.engine ∧ (State.lockGranted status data s).xmm = s.xmm ∧
    (State.lockGranted status data s).gate = s.gate ∧ (State.lockGranted status data s).inbound = s.inbound ∧
    (State.lockGranted status data s).notices = s.notices ∧ (State.lockGranted status data s).log = s.log ∧
    (State.lockGranted status data s).settings = s.settings ∧ (State.lockGranted status data s).out = s.out := by
  and_intros <;> rfl

@[simp] theorem State.lockFetchDone_keeps (serial : Nat) (status : DataStatus) (data : List Byte) (s : State) :
    (State.lockFetchDone serial status data s).pending = s.pending ∧ (State.lockFetchDone serial status data
    s).sched = s.sched ∧ (State.lockFetchDone serial status data s).raised = s.raised ∧ (State.lockFetchDone serial
    status data s).pins = s.pins ∧ (State.lockFetchDone serial status data s).power = s.power ∧ (State.lockFetchDone
    serial status data s).host = s.host ∧ (State.lockFetchDone serial status data s).addr = s.addr ∧
    (State.lockFetchDone serial status data s).streams = s.streams ∧ (State.lockFetchDone serial status data s).map
    = s.map ∧ (State.lockFetchDone serial status data s).engine = s.engine ∧ (State.lockFetchDone serial status data
    s).xmm = s.xmm ∧ (State.lockFetchDone serial status data s).gate = s.gate ∧ (State.lockFetchDone serial status
    data s).inbound = s.inbound ∧ (State.lockFetchDone serial status data s).notices = s.notices ∧
    (State.lockFetchDone serial status data s).log = s.log ∧ (State.lockFetchDone serial status data s).settings =
    s.settings ∧ (State.lockFetchDone serial status data s).out = s.out := by
  and_intros <;> first | rfl | (simp only [State.lockFetchDone]; (repeat' split) <;> simp)

@[simp] theorem State.lockFetchFailed_keeps (serial : Nat) (s : State) : (State.lockFetchFailed serial s).pending =
    s.pending ∧ (State.lockFetchFailed serial s).sched = s.sched ∧ (State.lockFetchFailed serial s).raised =
    s.raised ∧ (State.lockFetchFailed serial s).pins = s.pins ∧ (State.lockFetchFailed serial s).power = s.power ∧
    (State.lockFetchFailed serial s).host = s.host ∧ (State.lockFetchFailed serial s).addr = s.addr ∧
    (State.lockFetchFailed serial s).streams = s.streams ∧ (State.lockFetchFailed serial s).map = s.map ∧
    (State.lockFetchFailed serial s).engine = s.engine ∧ (State.lockFetchFailed serial s).xmm = s.xmm ∧
    (State.lockFetchFailed serial s).gate = s.gate ∧ (State.lockFetchFailed serial s).inbound = s.inbound ∧
    (State.lockFetchFailed serial s).notices = s.notices ∧ (State.lockFetchFailed serial s).log = s.log ∧
    (State.lockFetchFailed serial s).settings = s.settings ∧ (State.lockFetchFailed serial s).out = s.out := by
  and_intros <;> first | rfl | (simp only [State.lockFetchFailed]; (repeat' split) <;> simp)

@[simp] theorem State.unlockEnded_keeps (serial : Nat) (s : State) : (State.unlockEnded serial s).pending =
    s.pending ∧ (State.unlockEnded serial s).sched = s.sched ∧ (State.unlockEnded serial s).raised = s.raised ∧
    (State.unlockEnded serial s).pins = s.pins ∧ (State.unlockEnded serial s).power = s.power ∧ (State.unlockEnded
    serial s).host = s.host ∧ (State.unlockEnded serial s).addr = s.addr ∧ (State.unlockEnded serial s).streams =
    s.streams ∧ (State.unlockEnded serial s).map = s.map ∧ (State.unlockEnded serial s).engine = s.engine ∧
    (State.unlockEnded serial s).xmm = s.xmm ∧ (State.unlockEnded serial s).gate = s.gate ∧ (State.unlockEnded
    serial s).inbound = s.inbound ∧ (State.unlockEnded serial s).notices = s.notices ∧ (State.unlockEnded serial
    s).log = s.log ∧ (State.unlockEnded serial s).settings = s.settings ∧ (State.unlockEnded serial s).out = s.out
    := by
  and_intros <;> first | rfl | (simp only [State.unlockEnded]; (repeat' split) <;> simp)

@[simp] theorem State.addLock_keeps (i : DwIndex) (o : LockOwner) (s : State) : (State.addLock i o s).pending =
    s.pending ∧ (State.addLock i o s).sched = s.sched ∧ (State.addLock i o s).raised = s.raised ∧ (State.addLock i o
    s).pins = s.pins ∧ (State.addLock i o s).power = s.power ∧ (State.addLock i o s).host = s.host ∧ (State.addLock
    i o s).addr = s.addr ∧ (State.addLock i o s).streams = s.streams ∧ (State.addLock i o s).map = s.map ∧
    (State.addLock i o s).engine = s.engine ∧ (State.addLock i o s).xmm = s.xmm ∧ (State.addLock i o s).gate =
    s.gate ∧ (State.addLock i o s).inbound = s.inbound ∧ (State.addLock i o s).notices = s.notices ∧ (State.addLock
    i o s).log = s.log ∧ (State.addLock i o s).settings = s.settings ∧ (State.addLock i o s).out = s.out := by
  and_intros <;> rfl

@[simp] theorem State.fileReport_keeps (e : ReportEntry) (s : State) : (State.fileReport e s).pending = s.pending ∧
    (State.fileReport e s).sched = s.sched ∧ (State.fileReport e s).pins = s.pins ∧ (State.fileReport e s).power =
    s.power ∧ (State.fileReport e s).host = s.host ∧ (State.fileReport e s).addr = s.addr ∧ (State.fileReport e
    s).streams = s.streams ∧ (State.fileReport e s).map = s.map ∧ (State.fileReport e s).ilu = s.ilu ∧
    (State.fileReport e s).xmm = s.xmm ∧ (State.fileReport e s).gate = s.gate ∧ (State.fileReport e s).inbound =
    s.inbound ∧ (State.fileReport e s).notices = s.notices ∧ (State.fileReport e s).log = s.log ∧ (State.fileReport
    e s).settings = s.settings ∧ (State.fileReport e s).out = s.out := by
  and_intros <;> first | rfl | (simp only [State.fileReport]; (repeat' split) <;> simp)

@[simp] theorem State.expireNodeLock_keeps (i : DwIndex) (s : State) : (State.expireNodeLock i s).pending =
    s.pending ∧ (State.expireNodeLock i s).sched = s.sched ∧ (State.expireNodeLock i s).pins = s.pins ∧
    (State.expireNodeLock i s).power = s.power ∧ (State.expireNodeLock i s).host = s.host ∧ (State.expireNodeLock i
    s).addr = s.addr ∧ (State.expireNodeLock i s).streams = s.streams ∧ (State.expireNodeLock i s).map = s.map ∧
    (State.expireNodeLock i s).xmm = s.xmm ∧ (State.expireNodeLock i s).gate = s.gate ∧ (State.expireNodeLock i
    s).inbound = s.inbound ∧ (State.expireNodeLock i s).notices = s.notices ∧ (State.expireNodeLock i s).log = s.log
    ∧ (State.expireNodeLock i s).settings = s.settings ∧ (State.expireNodeLock i s).out = s.out := by
  and_intros <;> first | rfl | (simp only [State.expireNodeLock]; (repeat' split) <;> simp)

@[simp] theorem State.expireHostHold_keeps (s : State) : (State.expireHostHold s).pending = s.pending ∧
    (State.expireHostHold s).pins = s.pins ∧ (State.expireHostHold s).power = s.power ∧ (State.expireHostHold
    s).host = s.host ∧ (State.expireHostHold s).addr = s.addr ∧ (State.expireHostHold s).map = s.map ∧
    (State.expireHostHold s).xmm = s.xmm ∧ (State.expireHostHold s).gate = s.gate ∧ (State.expireHostHold s).inbound
    = s.inbound ∧ (State.expireHostHold s).notices = s.notices ∧ (State.expireHostHold s).log = s.log ∧
    (State.expireHostHold s).settings = s.settings ∧ (State.expireHostHold s).out = s.out := by
  and_intros <;> first | rfl | (simp only [State.expireHostHold]; (repeat' split) <;> simp)

@[simp] theorem State.attemptLock_keeps (r : Request) (window : Option Timer) (s : State) : (State.attemptLock r
    window s).pending = s.pending ∧ (State.attemptLock r window s).sched = s.sched ∧ (State.attemptLock r window
    s).raised = s.raised ∧ (State.attemptLock r window s).pins = s.pins ∧ (State.attemptLock r window s).power =
    s.power ∧ (State.attemptLock r window s).host = s.host ∧ (State.attemptLock r window s).addr = s.addr ∧
    (State.attemptLock r window s).streams = s.streams ∧ (State.attemptLock r window s).map = s.map ∧
    (State.attemptLock r window s).engine = s.engine ∧ (State.attemptLock r window s).xmm = s.xmm ∧
    (State.attemptLock r window s).gate = s.gate ∧ (State.attemptLock r window s).inbound = s.inbound ∧
    (State.attemptLock r window s).notices = s.notices ∧ (State.attemptLock r window s).log = s.log ∧
    (State.attemptLock r window s).settings = s.settings ∧ (State.attemptLock r window s).out = s.out := by
  and_intros <;> first | rfl | (simp only [State.attemptLock]; (repeat' split) <;> simp)

@[simp] theorem State.expireKept_keeps (s : State) : (State.expireKept s).pending = s.pending ∧ (State.expireKept
    s).sched = s.sched ∧ (State.expireKept s).pins = s.pins ∧ (State.expireKept s).power = s.power ∧
    (State.expireKept s).host = s.host ∧ (State.expireKept s).addr = s.addr ∧ (State.expireKept s).streams =
    s.streams ∧ (State.expireKept s).map = s.map ∧ (State.expireKept s).engine = s.engine ∧ (State.expireKept s).xmm
    = s.xmm ∧ (State.expireKept s).gate = s.gate ∧ (State.expireKept s).inbound = s.inbound ∧ (State.expireKept
    s).notices = s.notices ∧ (State.expireKept s).log = s.log ∧ (State.expireKept s).settings = s.settings ∧
    (State.expireKept s).out = s.out := by
  and_intros <;> rfl

@[simp] theorem State.orphanOffer_keeps (s : State) : (State.orphanOffer s).pending = s.pending ∧ (State.orphanOffer
    s).sched = s.sched ∧ (State.orphanOffer s).raised = s.raised ∧ (State.orphanOffer s).pins = s.pins ∧
    (State.orphanOffer s).power = s.power ∧ (State.orphanOffer s).host = s.host ∧ (State.orphanOffer s).addr =
    s.addr ∧ (State.orphanOffer s).streams = s.streams ∧ (State.orphanOffer s).map = s.map ∧ (State.orphanOffer
    s).ilu = s.ilu ∧ (State.orphanOffer s).xmm = s.xmm ∧ (State.orphanOffer s).gate = s.gate ∧ (State.orphanOffer
    s).inbound = s.inbound ∧ (State.orphanOffer s).notices = s.notices ∧ (State.orphanOffer s).log = s.log ∧
    (State.orphanOffer s).settings = s.settings ∧ (State.orphanOffer s).out = s.out := by
  and_intros <;> rfl

@[simp] theorem State.deliverDone_keeps (r : Request) (status : DataStatus) (data : List Byte) (s : State) :
    (State.deliverDone r status data s).pending = s.pending ∧ (State.deliverDone r status data s).sched = s.sched ∧
    (State.deliverDone r status data s).raised = s.raised ∧ (State.deliverDone r status data s).pins = s.pins ∧
    (State.deliverDone r status data s).power = s.power ∧ (State.deliverDone r status data s).host = s.host ∧
    (State.deliverDone r status data s).addr = s.addr ∧ (State.deliverDone r status data s).map = s.map ∧
    (State.deliverDone r status data s).engine = s.engine ∧ (State.deliverDone r status data s).xmm = s.xmm ∧
    (State.deliverDone r status data s).gate = s.gate ∧ (State.deliverDone r status data s).inbound = s.inbound ∧
    (State.deliverDone r status data s).notices = s.notices ∧ (State.deliverDone r status data s).log = s.log ∧
    (State.deliverDone r status data s).settings = s.settings ∧ (State.deliverDone r status data s).out = s.out :=
    by
  and_intros <;> first | rfl | (simp only [State.deliverDone]; (repeat' split) <;> simp)

@[simp] theorem State.deliverFailed_keeps (r : Request) (s : State) : (State.deliverFailed r s).pending = s.pending
    ∧ (State.deliverFailed r s).sched = s.sched ∧ (State.deliverFailed r s).raised = s.raised ∧ (State.deliverFailed
    r s).pins = s.pins ∧ (State.deliverFailed r s).power = s.power ∧ (State.deliverFailed r s).host = s.host ∧
    (State.deliverFailed r s).addr = s.addr ∧ (State.deliverFailed r s).map = s.map ∧ (State.deliverFailed r
    s).engine = s.engine ∧ (State.deliverFailed r s).xmm = s.xmm ∧ (State.deliverFailed r s).gate = s.gate ∧
    (State.deliverFailed r s).inbound = s.inbound ∧ (State.deliverFailed r s).notices = s.notices ∧
    (State.deliverFailed r s).log = s.log ∧ (State.deliverFailed r s).settings = s.settings ∧ (State.deliverFailed r
    s).out = s.out := by
  and_intros <;> first | rfl | (simp only [State.deliverFailed]; (repeat' split) <;> simp)

@[simp] theorem State.moveHead_keeps (e : QueueEntry) (s : State) : (State.moveHead e s).pending = s.pending ∧
    (State.moveHead e s).sched = s.sched ∧ (State.moveHead e s).raised = s.raised ∧ (State.moveHead e s).pins =
    s.pins ∧ (State.moveHead e s).power = s.power ∧ (State.moveHead e s).host = s.host ∧ (State.moveHead e s).addr =
    s.addr ∧ (State.moveHead e s).streams = s.streams ∧ (State.moveHead e s).map = s.map ∧ (State.moveHead e s).ilu
    = s.ilu ∧ (State.moveHead e s).xmm = s.xmm ∧ (State.moveHead e s).gate = s.gate ∧ (State.moveHead e s).inbound =
    s.inbound ∧ (State.moveHead e s).notices = s.notices ∧ (State.moveHead e s).log = s.log ∧ (State.moveHead e
    s).settings = s.settings ∧ (State.moveHead e s).out = s.out := by
  and_intros <;> first | rfl | (simp only [State.moveHead]; (repeat' split) <;> simp)

@[simp] theorem State.failSendPoint_keeps (sp : SendPoint) (c : FaultCode) (s : State) : (State.failSendPoint sp c
    s).pending = s.pending ∧ (State.failSendPoint sp c s).sched = s.sched ∧ (State.failSendPoint sp c s).pins =
    s.pins ∧ (State.failSendPoint sp c s).power = s.power ∧ (State.failSendPoint sp c s).host = s.host ∧
    (State.failSendPoint sp c s).addr = s.addr ∧ (State.failSendPoint sp c s).map = s.map ∧ (State.failSendPoint sp
    c s).xmm = s.xmm ∧ (State.failSendPoint sp c s).gate = s.gate ∧ (State.failSendPoint sp c s).inbound = s.inbound
    ∧ (State.failSendPoint sp c s).notices = s.notices ∧ (State.failSendPoint sp c s).log = s.log ∧
    (State.failSendPoint sp c s).settings = s.settings ∧ (State.failSendPoint sp c s).out = s.out := by
  and_intros <;> first | rfl | simp [State.failSendPoint]

@[simp] theorem State.raiseRecovered_keeps (sp : SendPoint) (s : State) : (State.raiseRecovered sp s).pending =
    s.pending ∧ (State.raiseRecovered sp s).sched = s.sched ∧ (State.raiseRecovered sp s).pins = s.pins ∧
    (State.raiseRecovered sp s).power = s.power ∧ (State.raiseRecovered sp s).host = s.host ∧ (State.raiseRecovered
    sp s).addr = s.addr ∧ (State.raiseRecovered sp s).streams = s.streams ∧ (State.raiseRecovered sp s).map = s.map
    ∧ (State.raiseRecovered sp s).engine = s.engine ∧ (State.raiseRecovered sp s).ilu = s.ilu ∧
    (State.raiseRecovered sp s).xmm = s.xmm ∧ (State.raiseRecovered sp s).gate = s.gate ∧ (State.raiseRecovered sp
    s).inbound = s.inbound ∧ (State.raiseRecovered sp s).notices = s.notices ∧ (State.raiseRecovered sp s).log =
    s.log ∧ (State.raiseRecovered sp s).settings = s.settings ∧ (State.raiseRecovered sp s).out = s.out := by
  and_intros <;> first | rfl | (simp only [State.raiseRecovered]; (repeat' split) <;> simp)

@[simp] theorem State.sendPointTaken_keeps (sp : SendPoint) (s : State) : (State.sendPointTaken sp s).pending =
    s.pending ∧ (State.sendPointTaken sp s).sched = s.sched ∧ (State.sendPointTaken sp s).pins = s.pins ∧
    (State.sendPointTaken sp s).power = s.power ∧ (State.sendPointTaken sp s).host = s.host ∧ (State.sendPointTaken
    sp s).addr = s.addr ∧ (State.sendPointTaken sp s).map = s.map ∧ (State.sendPointTaken sp s).xmm = s.xmm ∧
    (State.sendPointTaken sp s).gate = s.gate ∧ (State.sendPointTaken sp s).inbound = s.inbound ∧
    (State.sendPointTaken sp s).notices = s.notices ∧ (State.sendPointTaken sp s).log = s.log ∧
    (State.sendPointTaken sp s).settings = s.settings ∧ (State.sendPointTaken sp s).out = s.out := by
  and_intros <;> first | rfl | (simp only [State.sendPointTaken]; (repeat' split) <;> simp)

@[simp] theorem State.sendPointRefused_keeps (sp : SendPoint) (s : State) : (State.sendPointRefused sp s).pending =
    s.pending ∧ (State.sendPointRefused sp s).sched = s.sched ∧ (State.sendPointRefused sp s).pins = s.pins ∧
    (State.sendPointRefused sp s).power = s.power ∧ (State.sendPointRefused sp s).host = s.host ∧
    (State.sendPointRefused sp s).addr = s.addr ∧ (State.sendPointRefused sp s).map = s.map ∧
    (State.sendPointRefused sp s).xmm = s.xmm ∧ (State.sendPointRefused sp s).gate = s.gate ∧
    (State.sendPointRefused sp s).inbound = s.inbound ∧ (State.sendPointRefused sp s).notices = s.notices ∧
    (State.sendPointRefused sp s).log = s.log ∧ (State.sendPointRefused sp s).settings = s.settings ∧
    (State.sendPointRefused sp s).out = s.out := by
  and_intros <;> first | rfl | (simp only [State.sendPointRefused]; (repeat' split) <;> simp)

@[simp] theorem State.sendPointReceipt_keeps (sp : SendPoint) (r : Receipt) (s : State) : (State.sendPointReceipt sp
    r s).pending = s.pending ∧ (State.sendPointReceipt sp r s).sched = s.sched ∧ (State.sendPointReceipt sp r
    s).pins = s.pins ∧ (State.sendPointReceipt sp r s).power = s.power ∧ (State.sendPointReceipt sp r s).host =
    s.host ∧ (State.sendPointReceipt sp r s).addr = s.addr ∧ (State.sendPointReceipt sp r s).map = s.map ∧
    (State.sendPointReceipt sp r s).xmm = s.xmm ∧ (State.sendPointReceipt sp r s).gate = s.gate ∧
    (State.sendPointReceipt sp r s).inbound = s.inbound ∧ (State.sendPointReceipt sp r s).notices = s.notices ∧
    (State.sendPointReceipt sp r s).log = s.log ∧ (State.sendPointReceipt sp r s).settings = s.settings ∧
    (State.sendPointReceipt sp r s).out = s.out := by
  and_intros <;> first | rfl | (simp only [State.sendPointReceipt]; (repeat' split) <;> simp)

@[simp] theorem State.abandonedReceipt_keeps (r : Receipt) (s : State) : (State.abandonedReceipt r s).pending =
    s.pending ∧ (State.abandonedReceipt r s).sched = s.sched ∧ (State.abandonedReceipt r s).raised = s.raised ∧
    (State.abandonedReceipt r s).pins = s.pins ∧ (State.abandonedReceipt r s).power = s.power ∧
    (State.abandonedReceipt r s).host = s.host ∧ (State.abandonedReceipt r s).addr = s.addr ∧
    (State.abandonedReceipt r s).streams = s.streams ∧ (State.abandonedReceipt r s).map = s.map ∧
    (State.abandonedReceipt r s).ilu = s.ilu ∧ (State.abandonedReceipt r s).xmm = s.xmm ∧ (State.abandonedReceipt r
    s).gate = s.gate ∧ (State.abandonedReceipt r s).inbound = s.inbound ∧ (State.abandonedReceipt r s).notices =
    s.notices ∧ (State.abandonedReceipt r s).log = s.log ∧ (State.abandonedReceipt r s).settings = s.settings ∧
    (State.abandonedReceipt r s).out = s.out := by
  and_intros <;> first | rfl | (simp only [State.abandonedReceipt]; (repeat' split) <;> simp)

@[simp] theorem State.strayBeat_keeps (t : Tag) (s : State) : (State.strayBeat t s).pending = s.pending ∧
    (State.strayBeat t s).sched = s.sched ∧ (State.strayBeat t s).pins = s.pins ∧ (State.strayBeat t s).power =
    s.power ∧ (State.strayBeat t s).host = s.host ∧ (State.strayBeat t s).addr = s.addr ∧ (State.strayBeat t
    s).streams = s.streams ∧ (State.strayBeat t s).map = s.map ∧ (State.strayBeat t s).ilu = s.ilu ∧
    (State.strayBeat t s).xmm = s.xmm ∧ (State.strayBeat t s).gate = s.gate ∧ (State.strayBeat t s).inbound =
    s.inbound ∧ (State.strayBeat t s).notices = s.notices ∧ (State.strayBeat t s).log = s.log ∧ (State.strayBeat t
    s).settings = s.settings ∧ (State.strayBeat t s).out = s.out := by
  and_intros <;> rfl

@[simp] theorem State.failTag_keeps (t : Tag) (b : BusyTag) (c : FaultCode) (s : State) : (State.failTag t b c
    s).pending = s.pending ∧ (State.failTag t b c s).sched = s.sched ∧ (State.failTag t b c s).pins = s.pins ∧
    (State.failTag t b c s).power = s.power ∧ (State.failTag t b c s).host = s.host ∧ (State.failTag t b c s).addr =
    s.addr ∧ (State.failTag t b c s).map = s.map ∧ (State.failTag t b c s).xmm = s.xmm ∧ (State.failTag t b c
    s).gate = s.gate ∧ (State.failTag t b c s).inbound = s.inbound ∧ (State.failTag t b c s).notices = s.notices ∧
    (State.failTag t b c s).log = s.log ∧ (State.failTag t b c s).settings = s.settings ∧ (State.failTag t b c
    s).out = s.out := by
  and_intros <;> first | rfl | simp [State.failTag]

@[simp] theorem State.sequenceError_keeps (t : Tag) (b : BusyTag) (s : State) : (State.sequenceError t b s).pending
    = s.pending ∧ (State.sequenceError t b s).sched = s.sched ∧ (State.sequenceError t b s).pins = s.pins ∧
    (State.sequenceError t b s).power = s.power ∧ (State.sequenceError t b s).host = s.host ∧ (State.sequenceError t
    b s).addr = s.addr ∧ (State.sequenceError t b s).map = s.map ∧ (State.sequenceError t b s).xmm = s.xmm ∧
    (State.sequenceError t b s).gate = s.gate ∧ (State.sequenceError t b s).inbound = s.inbound ∧
    (State.sequenceError t b s).notices = s.notices ∧ (State.sequenceError t b s).log = s.log ∧ (State.sequenceError
    t b s).settings = s.settings ∧ (State.sequenceError t b s).out = s.out := by
  and_intros <;> first | rfl | simp [State.sequenceError]

@[simp] theorem State.raiseStatus_keeps (t : Tag) (b : BusyTag) (s : State) : (State.raiseStatus t b s).pending =
    s.pending ∧ (State.raiseStatus t b s).sched = s.sched ∧ (State.raiseStatus t b s).pins = s.pins ∧
    (State.raiseStatus t b s).power = s.power ∧ (State.raiseStatus t b s).host = s.host ∧ (State.raiseStatus t b
    s).addr = s.addr ∧ (State.raiseStatus t b s).streams = s.streams ∧ (State.raiseStatus t b s).map = s.map ∧
    (State.raiseStatus t b s).engine = s.engine ∧ (State.raiseStatus t b s).ilu = s.ilu ∧ (State.raiseStatus t b
    s).xmm = s.xmm ∧ (State.raiseStatus t b s).gate = s.gate ∧ (State.raiseStatus t b s).inbound = s.inbound ∧
    (State.raiseStatus t b s).notices = s.notices ∧ (State.raiseStatus t b s).log = s.log ∧ (State.raiseStatus t b
    s).settings = s.settings ∧ (State.raiseStatus t b s).out = s.out := by
  and_intros <;> first | rfl | (simp only [State.raiseStatus]; (repeat' split) <;> simp)

@[simp] theorem State.completeTag_keeps (t : Tag) (b : BusyTag) (s : State) : (State.completeTag t b s).pending =
    s.pending ∧ (State.completeTag t b s).pins = s.pins ∧ (State.completeTag t b s).power = s.power ∧
    (State.completeTag t b s).host = s.host ∧ (State.completeTag t b s).addr = s.addr ∧ (State.completeTag t b
    s).map = s.map ∧ (State.completeTag t b s).xmm = s.xmm ∧ (State.completeTag t b s).gate = s.gate ∧
    (State.completeTag t b s).inbound = s.inbound ∧ (State.completeTag t b s).notices = s.notices ∧
    (State.completeTag t b s).log = s.log ∧ (State.completeTag t b s).settings = s.settings ∧ (State.completeTag t b
    s).out = s.out := by
  and_intros <;> first | rfl | (simp only [State.completeTag]; (repeat' split) <;> simp)

@[simp] theorem State.heldBeat_keeps (t : Tag) (b : BusyTag) (s : State) : (State.heldBeat t b s).pending =
    s.pending ∧ (State.heldBeat t b s).sched = s.sched ∧ (State.heldBeat t b s).pins = s.pins ∧ (State.heldBeat t b
    s).power = s.power ∧ (State.heldBeat t b s).host = s.host ∧ (State.heldBeat t b s).addr = s.addr ∧
    (State.heldBeat t b s).map = s.map ∧ (State.heldBeat t b s).xmm = s.xmm ∧ (State.heldBeat t b s).gate = s.gate ∧
    (State.heldBeat t b s).inbound = s.inbound ∧ (State.heldBeat t b s).notices = s.notices ∧ (State.heldBeat t b
    s).log = s.log ∧ (State.heldBeat t b s).settings = s.settings ∧ (State.heldBeat t b s).out = s.out := by
  and_intros <;> first | rfl | (simp only [State.heldBeat]; (repeat' split) <;> simp)

@[simp] theorem State.recordBeat_keeps (t : Tag) (b : BusyTag) (s : State) : (State.recordBeat t b s).pending =
    s.pending ∧ (State.recordBeat t b s).pins = s.pins ∧ (State.recordBeat t b s).power = s.power ∧
    (State.recordBeat t b s).host = s.host ∧ (State.recordBeat t b s).addr = s.addr ∧ (State.recordBeat t b s).map =
    s.map ∧ (State.recordBeat t b s).xmm = s.xmm ∧ (State.recordBeat t b s).gate = s.gate ∧ (State.recordBeat t b
    s).inbound = s.inbound ∧ (State.recordBeat t b s).notices = s.notices ∧ (State.recordBeat t b s).log = s.log ∧
    (State.recordBeat t b s).settings = s.settings ∧ (State.recordBeat t b s).out = s.out := by
  and_intros <;> first | rfl | (simp only [State.recordBeat]; (repeat' split) <;> simp)

@[simp] theorem State.scoreBeat_keeps (p : Beat) (s : State) : (State.scoreBeat p s).pending = s.pending ∧
    (State.scoreBeat p s).pins = s.pins ∧ (State.scoreBeat p s).power = s.power ∧ (State.scoreBeat p s).host =
    s.host ∧ (State.scoreBeat p s).addr = s.addr ∧ (State.scoreBeat p s).map = s.map ∧ (State.scoreBeat p s).xmm =
    s.xmm ∧ (State.scoreBeat p s).gate = s.gate ∧ (State.scoreBeat p s).inbound = s.inbound ∧ (State.scoreBeat p
    s).notices = s.notices ∧ (State.scoreBeat p s).log = s.log ∧ (State.scoreBeat p s).settings = s.settings ∧
    (State.scoreBeat p s).out = s.out := by
  and_intros <;> first | rfl | (simp only [State.scoreBeat]; (repeat' split) <;> simp)

@[simp] theorem State.expireResponse_keeps (t : Tag) (s : State) : (State.expireResponse t s).pending = s.pending ∧
    (State.expireResponse t s).sched = s.sched ∧ (State.expireResponse t s).pins = s.pins ∧ (State.expireResponse t
    s).power = s.power ∧ (State.expireResponse t s).host = s.host ∧ (State.expireResponse t s).addr = s.addr ∧
    (State.expireResponse t s).map = s.map ∧ (State.expireResponse t s).xmm = s.xmm ∧ (State.expireResponse t
    s).gate = s.gate ∧ (State.expireResponse t s).inbound = s.inbound ∧ (State.expireResponse t s).notices =
    s.notices ∧ (State.expireResponse t s).log = s.log ∧ (State.expireResponse t s).settings = s.settings ∧
    (State.expireResponse t s).out = s.out := by
  and_intros <;> first | rfl | (simp only [State.expireResponse]; (repeat' split) <;> simp)

@[simp] theorem State.expireSendPoint_keeps (s : State) : (State.expireSendPoint s).pending = s.pending ∧
    (State.expireSendPoint s).sched = s.sched ∧ (State.expireSendPoint s).pins = s.pins ∧ (State.expireSendPoint
    s).power = s.power ∧ (State.expireSendPoint s).host = s.host ∧ (State.expireSendPoint s).addr = s.addr ∧
    (State.expireSendPoint s).map = s.map ∧ (State.expireSendPoint s).xmm = s.xmm ∧ (State.expireSendPoint s).gate =
    s.gate ∧ (State.expireSendPoint s).inbound = s.inbound ∧ (State.expireSendPoint s).notices = s.notices ∧
    (State.expireSendPoint s).log = s.log ∧ (State.expireSendPoint s).settings = s.settings ∧ (State.expireSendPoint
    s).out = s.out := by
  and_intros <;> first | rfl | (simp only [State.expireSendPoint]; (repeat' split) <;> simp)

@[simp] theorem State.expireQuarantine_keeps (t : Tag) (s : State) : (State.expireQuarantine t s).pending =
    s.pending ∧ (State.expireQuarantine t s).sched = s.sched ∧ (State.expireQuarantine t s).raised = s.raised ∧
    (State.expireQuarantine t s).pins = s.pins ∧ (State.expireQuarantine t s).power = s.power ∧
    (State.expireQuarantine t s).host = s.host ∧ (State.expireQuarantine t s).addr = s.addr ∧
    (State.expireQuarantine t s).streams = s.streams ∧ (State.expireQuarantine t s).map = s.map ∧
    (State.expireQuarantine t s).ilu = s.ilu ∧ (State.expireQuarantine t s).xmm = s.xmm ∧ (State.expireQuarantine t
    s).gate = s.gate ∧ (State.expireQuarantine t s).inbound = s.inbound ∧ (State.expireQuarantine t s).notices =
    s.notices ∧ (State.expireQuarantine t s).log = s.log ∧ (State.expireQuarantine t s).settings = s.settings ∧
    (State.expireQuarantine t s).out = s.out := by
  and_intros <;> rfl

@[simp] theorem State.expireLockFetch_keeps (s : State) : (State.expireLockFetch s).pending = s.pending ∧
    (State.expireLockFetch s).sched = s.sched ∧ (State.expireLockFetch s).pins = s.pins ∧ (State.expireLockFetch
    s).power = s.power ∧ (State.expireLockFetch s).host = s.host ∧ (State.expireLockFetch s).addr = s.addr ∧
    (State.expireLockFetch s).map = s.map ∧ (State.expireLockFetch s).xmm = s.xmm ∧ (State.expireLockFetch s).gate =
    s.gate ∧ (State.expireLockFetch s).inbound = s.inbound ∧ (State.expireLockFetch s).notices = s.notices ∧
    (State.expireLockFetch s).log = s.log ∧ (State.expireLockFetch s).settings = s.settings ∧ (State.expireLockFetch
    s).out = s.out := by
  and_intros <;> first | rfl | (simp only [State.expireLockFetch]; (repeat' split) <;> simp)

@[simp] theorem State.failReport_keeps (e : ReportEntry) (s : State) : (State.failReport e s).pending = s.pending ∧
    (State.failReport e s).sched = s.sched ∧ (State.failReport e s).pins = s.pins ∧ (State.failReport e s).power =
    s.power ∧ (State.failReport e s).host = s.host ∧ (State.failReport e s).addr = s.addr ∧ (State.failReport e
    s).streams = s.streams ∧ (State.failReport e s).map = s.map ∧ (State.failReport e s).ilu = s.ilu ∧
    (State.failReport e s).xmm = s.xmm ∧ (State.failReport e s).gate = s.gate ∧ (State.failReport e s).inbound =
    s.inbound ∧ (State.failReport e s).notices = s.notices ∧ (State.failReport e s).log = s.log ∧ (State.failReport
    e s).settings = s.settings ∧ (State.failReport e s).out = s.out := by
  and_intros <;> rfl

@[simp] theorem State.reportReceipt_keeps (e : ReportEntry) (r : Receipt) (s : State) : (State.reportReceipt e r
    s).pending = s.pending ∧ (State.reportReceipt e r s).sched = s.sched ∧ (State.reportReceipt e r s).pins = s.pins
    ∧ (State.reportReceipt e r s).power = s.power ∧ (State.reportReceipt e r s).host = s.host ∧ (State.reportReceipt
    e r s).addr = s.addr ∧ (State.reportReceipt e r s).streams = s.streams ∧ (State.reportReceipt e r s).map = s.map
    ∧ (State.reportReceipt e r s).ilu = s.ilu ∧ (State.reportReceipt e r s).xmm = s.xmm ∧ (State.reportReceipt e r
    s).gate = s.gate ∧ (State.reportReceipt e r s).inbound = s.inbound ∧ (State.reportReceipt e r s).notices =
    s.notices ∧ (State.reportReceipt e r s).log = s.log ∧ (State.reportReceipt e r s).settings = s.settings ∧
    (State.reportReceipt e r s).out = s.out := by
  and_intros <;> first | rfl | (simp only [State.reportReceipt]; (repeat' split) <;> simp)

@[simp] theorem State.expireReport_keeps (s : State) : (State.expireReport s).pending = s.pending ∧
    (State.expireReport s).sched = s.sched ∧ (State.expireReport s).pins = s.pins ∧ (State.expireReport s).power =
    s.power ∧ (State.expireReport s).host = s.host ∧ (State.expireReport s).addr = s.addr ∧ (State.expireReport
    s).streams = s.streams ∧ (State.expireReport s).map = s.map ∧ (State.expireReport s).ilu = s.ilu ∧
    (State.expireReport s).xmm = s.xmm ∧ (State.expireReport s).gate = s.gate ∧ (State.expireReport s).inbound =
    s.inbound ∧ (State.expireReport s).notices = s.notices ∧ (State.expireReport s).log = s.log ∧
    (State.expireReport s).settings = s.settings ∧ (State.expireReport s).out = s.out := by
  and_intros <;> first | rfl | (simp only [State.expireReport]; (repeat' split) <;> simp)

@[simp] theorem State.abortDiscard_keeps (s : State) : (State.abortDiscard s).pending = s.pending ∧
    (State.abortDiscard s).sched = s.sched ∧ (State.abortDiscard s).raised = s.raised ∧ (State.abortDiscard s).pins
    = s.pins ∧ (State.abortDiscard s).power = s.power ∧ (State.abortDiscard s).host = s.host ∧ (State.abortDiscard
    s).addr = s.addr ∧ (State.abortDiscard s).map = s.map ∧ (State.abortDiscard s).xmm = s.xmm ∧ (State.abortDiscard
    s).gate = s.gate ∧ (State.abortDiscard s).inbound = s.inbound ∧ (State.abortDiscard s).notices = s.notices ∧
    (State.abortDiscard s).log = s.log ∧ (State.abortDiscard s).settings = s.settings ∧ (State.abortDiscard s).out =
    s.out := by
  and_intros <;> rfl

@[simp] theorem State.abandonRelease_keeps (releases : Bool) (s : State) : (State.abandonRelease releases s).pending
    = s.pending ∧ (State.abandonRelease releases s).raised = s.raised ∧ (State.abandonRelease releases s).pins =
    s.pins ∧ (State.abandonRelease releases s).power = s.power ∧ (State.abandonRelease releases s).host = s.host ∧
    (State.abandonRelease releases s).addr = s.addr ∧ (State.abandonRelease releases s).streams = s.streams ∧
    (State.abandonRelease releases s).map = s.map ∧ (State.abandonRelease releases s).ilu = s.ilu ∧
    (State.abandonRelease releases s).xmm = s.xmm ∧ (State.abandonRelease releases s).gate = s.gate ∧
    (State.abandonRelease releases s).inbound = s.inbound ∧ (State.abandonRelease releases s).notices = s.notices ∧
    (State.abandonRelease releases s).log = s.log ∧ (State.abandonRelease releases s).settings = s.settings ∧
    (State.abandonRelease releases s).out = s.out := by
  and_intros <;> first | rfl | (simp only [State.abandonRelease]; (repeat' split) <;> simp)

@[simp] theorem State.abort_keeps (s : State) : (State.abort s).pending = s.pending ∧ (State.abort s).pins = s.pins
    ∧ (State.abort s).power = s.power ∧ (State.abort s).addr = s.addr ∧ (State.abort s).map = s.map ∧ (State.abort
    s).xmm = s.xmm ∧ (State.abort s).gate = s.gate ∧ (State.abort s).inbound = s.inbound ∧ (State.abort s).notices =
    s.notices ∧ (State.abort s).log = s.log ∧ (State.abort s).settings = s.settings ∧ (State.abort s).out = s.out :=
    by
  and_intros <;> first | rfl | (simp only [State.abort]; (repeat' split) <;> simp)

@[simp] theorem State.acceptInbound_keeps (p : MemoryPacket) (s : State) : (State.acceptInbound p s).pending =
    s.pending ∧ (State.acceptInbound p s).raised = s.raised ∧ (State.acceptInbound p s).pins = s.pins ∧
    (State.acceptInbound p s).power = s.power ∧ (State.acceptInbound p s).host = s.host ∧ (State.acceptInbound p
    s).addr = s.addr ∧ (State.acceptInbound p s).streams = s.streams ∧ (State.acceptInbound p s).map = s.map ∧
    (State.acceptInbound p s).engine = s.engine ∧ (State.acceptInbound p s).ilu = s.ilu ∧ (State.acceptInbound p
    s).xmm = s.xmm ∧ (State.acceptInbound p s).gate = s.gate ∧ (State.acceptInbound p s).notices = s.notices ∧
    (State.acceptInbound p s).log = s.log ∧ (State.acceptInbound p s).settings = s.settings ∧ (State.acceptInbound p
    s).out = s.out := by
  and_intros <;> rfl

@[simp] theorem State.completeEntry_keeps (serial : Nat) (s : State) : (State.completeEntry serial s).pending =
    s.pending ∧ (State.completeEntry serial s).sched = s.sched ∧ (State.completeEntry serial s).raised = s.raised ∧
    (State.completeEntry serial s).pins = s.pins ∧ (State.completeEntry serial s).power = s.power ∧
    (State.completeEntry serial s).host = s.host ∧ (State.completeEntry serial s).addr = s.addr ∧
    (State.completeEntry serial s).streams = s.streams ∧ (State.completeEntry serial s).map = s.map ∧
    (State.completeEntry serial s).engine = s.engine ∧ (State.completeEntry serial s).ilu = s.ilu ∧
    (State.completeEntry serial s).xmm = s.xmm ∧ (State.completeEntry serial s).gate = s.gate ∧ (State.completeEntry
    serial s).notices = s.notices ∧ (State.completeEntry serial s).log = s.log ∧ (State.completeEntry serial
    s).settings = s.settings ∧ (State.completeEntry serial s).out = s.out := by
  and_intros <;> rfl

@[simp] theorem State.answer_keeps (e : InboundEntry) (bs : List Beat) (s : State) : (State.answer e bs s).pending =
    s.pending ∧ (State.answer e bs s).sched = s.sched ∧ (State.answer e bs s).raised = s.raised ∧ (State.answer e bs
    s).pins = s.pins ∧ (State.answer e bs s).power = s.power ∧ (State.answer e bs s).host = s.host ∧ (State.answer e
    bs s).addr = s.addr ∧ (State.answer e bs s).streams = s.streams ∧ (State.answer e bs s).map = s.map ∧
    (State.answer e bs s).engine = s.engine ∧ (State.answer e bs s).ilu = s.ilu ∧ (State.answer e bs s).xmm = s.xmm
    ∧ (State.answer e bs s).gate = s.gate ∧ (State.answer e bs s).notices = s.notices ∧ (State.answer e bs s).log =
    s.log ∧ (State.answer e bs s).settings = s.settings ∧ (State.answer e bs s).out = s.out := by
  and_intros <;> first | rfl | (simp only [State.answer]; (repeat' split) <;> simp)

@[simp] theorem State.writeEntry_keeps (e : InboundEntry) (s : State) : (State.writeEntry e s).pending = s.pending ∧
    (State.writeEntry e s).sched = s.sched ∧ (State.writeEntry e s).raised = s.raised ∧ (State.writeEntry e s).pins
    = s.pins ∧ (State.writeEntry e s).power = s.power ∧ (State.writeEntry e s).host = s.host ∧ (State.writeEntry e
    s).addr = s.addr ∧ (State.writeEntry e s).streams = s.streams ∧ (State.writeEntry e s).map = s.map ∧
    (State.writeEntry e s).engine = s.engine ∧ (State.writeEntry e s).ilu = s.ilu ∧ (State.writeEntry e s).gate =
    s.gate ∧ (State.writeEntry e s).inbound = s.inbound ∧ (State.writeEntry e s).notices = s.notices ∧
    (State.writeEntry e s).log = s.log ∧ (State.writeEntry e s).settings = s.settings ∧ (State.writeEntry e s).out =
    s.out := by
  and_intros <;> rfl

@[simp] theorem State.inboundRead_keeps (e : InboundEntry) (s : State) : (State.inboundRead e s).pending = s.pending
    ∧ (State.inboundRead e s).sched = s.sched ∧ (State.inboundRead e s).raised = s.raised ∧ (State.inboundRead e
    s).pins = s.pins ∧ (State.inboundRead e s).power = s.power ∧ (State.inboundRead e s).host = s.host ∧
    (State.inboundRead e s).addr = s.addr ∧ (State.inboundRead e s).streams = s.streams ∧ (State.inboundRead e
    s).map = s.map ∧ (State.inboundRead e s).engine = s.engine ∧ (State.inboundRead e s).ilu = s.ilu ∧
    (State.inboundRead e s).xmm = s.xmm ∧ (State.inboundRead e s).gate = s.gate ∧ (State.inboundRead e s).notices =
    s.notices ∧ (State.inboundRead e s).log = s.log ∧ (State.inboundRead e s).settings = s.settings ∧
    (State.inboundRead e s).out = s.out := by
  and_intros <;> first | rfl | simp [State.inboundRead]

@[simp] theorem State.inboundWrite_keeps (e : InboundEntry) (s : State) : (State.inboundWrite e s).pending =
    s.pending ∧ (State.inboundWrite e s).sched = s.sched ∧ (State.inboundWrite e s).raised = s.raised ∧
    (State.inboundWrite e s).pins = s.pins ∧ (State.inboundWrite e s).power = s.power ∧ (State.inboundWrite e
    s).host = s.host ∧ (State.inboundWrite e s).addr = s.addr ∧ (State.inboundWrite e s).streams = s.streams ∧
    (State.inboundWrite e s).map = s.map ∧ (State.inboundWrite e s).engine = s.engine ∧ (State.inboundWrite e s).ilu
    = s.ilu ∧ (State.inboundWrite e s).gate = s.gate ∧ (State.inboundWrite e s).notices = s.notices ∧
    (State.inboundWrite e s).log = s.log ∧ (State.inboundWrite e s).settings = s.settings ∧ (State.inboundWrite e
    s).out = s.out := by
  and_intros <;> first | rfl | simp [State.inboundWrite]

@[simp] theorem State.inboundLockRead_keeps (e : InboundEntry) (s : State) : (State.inboundLockRead e s).pending =
    s.pending ∧ (State.inboundLockRead e s).sched = s.sched ∧ (State.inboundLockRead e s).raised = s.raised ∧
    (State.inboundLockRead e s).pins = s.pins ∧ (State.inboundLockRead e s).power = s.power ∧ (State.inboundLockRead
    e s).host = s.host ∧ (State.inboundLockRead e s).addr = s.addr ∧ (State.inboundLockRead e s).streams = s.streams
    ∧ (State.inboundLockRead e s).map = s.map ∧ (State.inboundLockRead e s).engine = s.engine ∧
    (State.inboundLockRead e s).xmm = s.xmm ∧ (State.inboundLockRead e s).gate = s.gate ∧ (State.inboundLockRead e
    s).notices = s.notices ∧ (State.inboundLockRead e s).log = s.log ∧ (State.inboundLockRead e s).settings =
    s.settings ∧ (State.inboundLockRead e s).out = s.out := by
  and_intros <;> first | rfl | (simp only [State.inboundLockRead]; (repeat' split) <;> simp)

@[simp] theorem State.unlockEntry_keeps (e : InboundEntry) (s : State) : (State.unlockEntry e s).pending = s.pending
    ∧ (State.unlockEntry e s).sched = s.sched ∧ (State.unlockEntry e s).pins = s.pins ∧ (State.unlockEntry e
    s).power = s.power ∧ (State.unlockEntry e s).host = s.host ∧ (State.unlockEntry e s).addr = s.addr ∧
    (State.unlockEntry e s).streams = s.streams ∧ (State.unlockEntry e s).map = s.map ∧ (State.unlockEntry e s).xmm
    = s.xmm ∧ (State.unlockEntry e s).gate = s.gate ∧ (State.unlockEntry e s).inbound = s.inbound ∧
    (State.unlockEntry e s).notices = s.notices ∧ (State.unlockEntry e s).log = s.log ∧ (State.unlockEntry e
    s).settings = s.settings ∧ (State.unlockEntry e s).out = s.out := by
  and_intros <;> first | rfl | (simp only [State.unlockEntry]; (repeat' split) <;> simp)

@[simp] theorem State.inboundUnlockWrite_keeps (e : InboundEntry) (s : State) : (State.inboundUnlockWrite e
    s).pending = s.pending ∧ (State.inboundUnlockWrite e s).sched = s.sched ∧ (State.inboundUnlockWrite e s).pins =
    s.pins ∧ (State.inboundUnlockWrite e s).power = s.power ∧ (State.inboundUnlockWrite e s).host = s.host ∧
    (State.inboundUnlockWrite e s).addr = s.addr ∧ (State.inboundUnlockWrite e s).streams = s.streams ∧
    (State.inboundUnlockWrite e s).map = s.map ∧ (State.inboundUnlockWrite e s).gate = s.gate ∧
    (State.inboundUnlockWrite e s).notices = s.notices ∧ (State.inboundUnlockWrite e s).log = s.log ∧
    (State.inboundUnlockWrite e s).settings = s.settings ∧ (State.inboundUnlockWrite e s).out = s.out := by
  and_intros <;> first | rfl | simp [State.inboundUnlockWrite]

@[simp] theorem State.executeInbound_keeps (e : InboundEntry) (s : State) : (State.executeInbound e s).pending =
    s.pending ∧ (State.executeInbound e s).sched = s.sched ∧ (State.executeInbound e s).pins = s.pins ∧
    (State.executeInbound e s).power = s.power ∧ (State.executeInbound e s).host = s.host ∧ (State.executeInbound e
    s).addr = s.addr ∧ (State.executeInbound e s).streams = s.streams ∧ (State.executeInbound e s).map = s.map ∧
    (State.executeInbound e s).gate = s.gate ∧ (State.executeInbound e s).notices = s.notices ∧
    (State.executeInbound e s).log = s.log ∧ (State.executeInbound e s).settings = s.settings ∧
    (State.executeInbound e s).out = s.out := by
  and_intros <;> first | rfl | (simp only [State.executeInbound]; (repeat' split) <;> simp)

@[simp] theorem State.beatLeaves_keeps (b : OwedBeat) (s : State) : (State.beatLeaves b s).pending = s.pending ∧
    (State.beatLeaves b s).sched = s.sched ∧ (State.beatLeaves b s).raised = s.raised ∧ (State.beatLeaves b s).pins
    = s.pins ∧ (State.beatLeaves b s).power = s.power ∧ (State.beatLeaves b s).host = s.host ∧ (State.beatLeaves b
    s).addr = s.addr ∧ (State.beatLeaves b s).streams = s.streams ∧ (State.beatLeaves b s).map = s.map ∧
    (State.beatLeaves b s).engine = s.engine ∧ (State.beatLeaves b s).ilu = s.ilu ∧ (State.beatLeaves b s).xmm =
    s.xmm ∧ (State.beatLeaves b s).gate = s.gate ∧ (State.beatLeaves b s).notices = s.notices ∧ (State.beatLeaves b
    s).log = s.log ∧ (State.beatLeaves b s).settings = s.settings ∧ (State.beatLeaves b s).out = s.out := by
  and_intros <;> first | rfl | (simp only [State.beatLeaves]; (repeat' split) <;> simp)

@[simp] theorem State.dropBeat_keeps (b : OwedBeat) (s : State) : (State.dropBeat b s).pending = s.pending ∧
    (State.dropBeat b s).sched = s.sched ∧ (State.dropBeat b s).pins = s.pins ∧ (State.dropBeat b s).power = s.power
    ∧ (State.dropBeat b s).host = s.host ∧ (State.dropBeat b s).addr = s.addr ∧ (State.dropBeat b s).streams =
    s.streams ∧ (State.dropBeat b s).map = s.map ∧ (State.dropBeat b s).engine = s.engine ∧ (State.dropBeat b s).ilu
    = s.ilu ∧ (State.dropBeat b s).xmm = s.xmm ∧ (State.dropBeat b s).gate = s.gate ∧ (State.dropBeat b s).notices =
    s.notices ∧ (State.dropBeat b s).log = s.log ∧ (State.dropBeat b s).settings = s.settings ∧ (State.dropBeat b
    s).out = s.out := by
  and_intros <;> first | rfl | simp [State.dropBeat]

@[simp] theorem State.setBeatHead_keeps (h : HeadOffer) (s : State) : (State.setBeatHead h s).pending = s.pending ∧
    (State.setBeatHead h s).sched = s.sched ∧ (State.setBeatHead h s).raised = s.raised ∧ (State.setBeatHead h
    s).pins = s.pins ∧ (State.setBeatHead h s).power = s.power ∧ (State.setBeatHead h s).host = s.host ∧
    (State.setBeatHead h s).addr = s.addr ∧ (State.setBeatHead h s).streams = s.streams ∧ (State.setBeatHead h
    s).map = s.map ∧ (State.setBeatHead h s).engine = s.engine ∧ (State.setBeatHead h s).ilu = s.ilu ∧
    (State.setBeatHead h s).xmm = s.xmm ∧ (State.setBeatHead h s).gate = s.gate ∧ (State.setBeatHead h s).notices =
    s.notices ∧ (State.setBeatHead h s).log = s.log ∧ (State.setBeatHead h s).settings = s.settings ∧
    (State.setBeatHead h s).out = s.out := by
  and_intros <;> rfl

@[simp] theorem State.beatReceipt_keeps (b : OwedBeat) (r : Receipt) (s : State) : (State.beatReceipt b r s).pending
    = s.pending ∧ (State.beatReceipt b r s).sched = s.sched ∧ (State.beatReceipt b r s).pins = s.pins ∧
    (State.beatReceipt b r s).power = s.power ∧ (State.beatReceipt b r s).host = s.host ∧ (State.beatReceipt b r
    s).addr = s.addr ∧ (State.beatReceipt b r s).streams = s.streams ∧ (State.beatReceipt b r s).map = s.map ∧
    (State.beatReceipt b r s).ilu = s.ilu ∧ (State.beatReceipt b r s).xmm = s.xmm ∧ (State.beatReceipt b r s).gate =
    s.gate ∧ (State.beatReceipt b r s).notices = s.notices ∧ (State.beatReceipt b r s).log = s.log ∧
    (State.beatReceipt b r s).settings = s.settings ∧ (State.beatReceipt b r s).out = s.out := by
  and_intros <;> first | rfl | (simp only [State.beatReceipt]; (repeat' split) <;> simp)

@[simp] theorem State.expireBeat_keeps (s : State) : (State.expireBeat s).pending = s.pending ∧ (State.expireBeat
    s).sched = s.sched ∧ (State.expireBeat s).pins = s.pins ∧ (State.expireBeat s).power = s.power ∧
    (State.expireBeat s).host = s.host ∧ (State.expireBeat s).addr = s.addr ∧ (State.expireBeat s).streams =
    s.streams ∧ (State.expireBeat s).map = s.map ∧ (State.expireBeat s).ilu = s.ilu ∧ (State.expireBeat s).xmm =
    s.xmm ∧ (State.expireBeat s).gate = s.gate ∧ (State.expireBeat s).notices = s.notices ∧ (State.expireBeat s).log
    = s.log ∧ (State.expireBeat s).settings = s.settings ∧ (State.expireBeat s).out = s.out := by
  and_intros <;> first | rfl | (simp only [State.expireBeat]; (repeat' split) <;> simp)

@[simp] theorem State.writeLocal_keeps (r : Request) (s : State) : (State.writeLocal r s).pending = s.pending ∧
    (State.writeLocal r s).sched = s.sched ∧ (State.writeLocal r s).raised = s.raised ∧ (State.writeLocal r s).pins
    = s.pins ∧ (State.writeLocal r s).power = s.power ∧ (State.writeLocal r s).host = s.host ∧ (State.writeLocal r
    s).addr = s.addr ∧ (State.writeLocal r s).streams = s.streams ∧ (State.writeLocal r s).map = s.map ∧
    (State.writeLocal r s).engine = s.engine ∧ (State.writeLocal r s).ilu = s.ilu ∧ (State.writeLocal r s).gate =
    s.gate ∧ (State.writeLocal r s).inbound = s.inbound ∧ (State.writeLocal r s).notices = s.notices ∧
    (State.writeLocal r s).log = s.log ∧ (State.writeLocal r s).settings = s.settings ∧ (State.writeLocal r s).out =
    s.out := by
  and_intros <;> rfl

@[simp] theorem State.executeLocal_keeps (r : Request) (s : State) : (State.executeLocal r s).pending = s.pending ∧
    (State.executeLocal r s).sched = s.sched ∧ (State.executeLocal r s).raised = s.raised ∧ (State.executeLocal r
    s).pins = s.pins ∧ (State.executeLocal r s).power = s.power ∧ (State.executeLocal r s).host = s.host ∧
    (State.executeLocal r s).addr = s.addr ∧ (State.executeLocal r s).map = s.map ∧ (State.executeLocal r s).engine
    = s.engine ∧ (State.executeLocal r s).gate = s.gate ∧ (State.executeLocal r s).inbound = s.inbound ∧
    (State.executeLocal r s).notices = s.notices ∧ (State.executeLocal r s).log = s.log ∧ (State.executeLocal r
    s).settings = s.settings ∧ (State.executeLocal r s).out = s.out := by
  and_intros <;> first | rfl | (simp only [State.executeLocal]; (repeat' split) <;> simp)

@[simp] theorem State.executeGrant_keeps (g : Grant) (s : State) : (State.executeGrant g s).pending = s.pending ∧
    (State.executeGrant g s).sched = s.sched ∧ (State.executeGrant g s).pins = s.pins ∧ (State.executeGrant g
    s).power = s.power ∧ (State.executeGrant g s).host = s.host ∧ (State.executeGrant g s).addr = s.addr ∧
    (State.executeGrant g s).map = s.map ∧ (State.executeGrant g s).gate = s.gate ∧ (State.executeGrant g s).notices
    = s.notices ∧ (State.executeGrant g s).log = s.log ∧ (State.executeGrant g s).settings = s.settings ∧
    (State.executeGrant g s).out = s.out := by
  and_intros <;> first | rfl | (simp only [State.executeGrant]; (repeat' split) <;> simp)

@[simp] theorem State.grant_keeps (g : Grant) (run : Nat) (s : State) : (State.grant g run s).pending = s.pending ∧
    (State.grant g run s).pins = s.pins ∧ (State.grant g run s).power = s.power ∧ (State.grant g run s).host =
    s.host ∧ (State.grant g run s).addr = s.addr ∧ (State.grant g run s).map = s.map ∧ (State.grant g run s).gate =
    s.gate ∧ (State.grant g run s).notices = s.notices ∧ (State.grant g run s).log = s.log ∧ (State.grant g run
    s).settings = s.settings ∧ (State.grant g run s).out = s.out := by
  and_intros <;> first | rfl | simp [State.grant]

@[simp] theorem State.replyInReset_keeps (selected passes : Bool) (s : State) : (State.replyInReset selected passes
    s).pending = s.pending ∧ (State.replyInReset selected passes s).sched = s.sched ∧ (State.replyInReset selected
    passes s).raised = s.raised ∧ (State.replyInReset selected passes s).pins = s.pins ∧ (State.replyInReset
    selected passes s).power = s.power ∧ (State.replyInReset selected passes s).host = s.host ∧ (State.replyInReset
    selected passes s).addr = s.addr ∧ (State.replyInReset selected passes s).streams = s.streams ∧
    (State.replyInReset selected passes s).map = s.map ∧ (State.replyInReset selected passes s).engine = s.engine ∧
    (State.replyInReset selected passes s).ilu = s.ilu ∧ (State.replyInReset selected passes s).xmm = s.xmm ∧
    (State.replyInReset selected passes s).gate = s.gate ∧ (State.replyInReset selected passes s).inbound =
    s.inbound ∧ (State.replyInReset selected passes s).notices = s.notices ∧ (State.replyInReset selected passes
    s).log = s.log ∧ (State.replyInReset selected passes s).settings = s.settings := by
  and_intros <;> rfl

@[simp] theorem State.decideMemory_keeps (p : MemoryPacket) (s : State) : (State.decideMemory p s).pending =
    s.pending ∧ (State.decideMemory p s).pins = s.pins ∧ (State.decideMemory p s).power = s.power ∧
    (State.decideMemory p s).host = s.host ∧ (State.decideMemory p s).addr = s.addr ∧ (State.decideMemory p
    s).streams = s.streams ∧ (State.decideMemory p s).map = s.map ∧ (State.decideMemory p s).engine = s.engine ∧
    (State.decideMemory p s).ilu = s.ilu ∧ (State.decideMemory p s).xmm = s.xmm ∧ (State.decideMemory p s).gate =
    s.gate ∧ (State.decideMemory p s).notices = s.notices ∧ (State.decideMemory p s).log = s.log ∧
    (State.decideMemory p s).settings = s.settings := by
  and_intros <;> first | rfl | (simp only [State.decideMemory]; (repeat' split) <;> simp)

@[simp] theorem State.receiveMemory_keeps (p : MemoryPacket) (s : State) : (State.receiveMemory p s).pending =
    s.pending ∧ (State.receiveMemory p s).pins = s.pins ∧ (State.receiveMemory p s).power = s.power ∧
    (State.receiveMemory p s).host = s.host ∧ (State.receiveMemory p s).addr = s.addr ∧ (State.receiveMemory p
    s).streams = s.streams ∧ (State.receiveMemory p s).map = s.map ∧ (State.receiveMemory p s).engine = s.engine ∧
    (State.receiveMemory p s).ilu = s.ilu ∧ (State.receiveMemory p s).xmm = s.xmm ∧ (State.receiveMemory p s).gate =
    s.gate ∧ (State.receiveMemory p s).notices = s.notices ∧ (State.receiveMemory p s).log = s.log ∧
    (State.receiveMemory p s).settings = s.settings := by
  and_intros <;> first | rfl | (simp only [State.receiveMemory]; (repeat' split) <;> simp)

@[simp] theorem State.queueRecord_keeps (body : NoticeBody) (level : Level) (source : Node) (s : State) :
    (State.queueRecord body level source s).pending = s.pending ∧ (State.queueRecord body level source s).sched =
    s.sched ∧ (State.queueRecord body level source s).raised = s.raised ∧ (State.queueRecord body level source
    s).pins = s.pins ∧ (State.queueRecord body level source s).power = s.power ∧ (State.queueRecord body level
    source s).host = s.host ∧ (State.queueRecord body level source s).addr = s.addr ∧ (State.queueRecord body level
    source s).streams = s.streams ∧ (State.queueRecord body level source s).map = s.map ∧ (State.queueRecord body
    level source s).engine = s.engine ∧ (State.queueRecord body level source s).ilu = s.ilu ∧ (State.queueRecord
    body level source s).xmm = s.xmm ∧ (State.queueRecord body level source s).gate = s.gate ∧ (State.queueRecord
    body level source s).inbound = s.inbound ∧ (State.queueRecord body level source s).log = s.log ∧
    (State.queueRecord body level source s).settings = s.settings ∧ (State.queueRecord body level source s).out =
    s.out := by
  and_intros <;> rfl

@[simp] theorem State.decideNotice_keeps (p : NoticePacket) (s : State) : (State.decideNotice p s).pending =
    s.pending ∧ (State.decideNotice p s).sched = s.sched ∧ (State.decideNotice p s).raised = s.raised ∧
    (State.decideNotice p s).pins = s.pins ∧ (State.decideNotice p s).power = s.power ∧ (State.decideNotice p
    s).host = s.host ∧ (State.decideNotice p s).addr = s.addr ∧ (State.decideNotice p s).streams = s.streams ∧
    (State.decideNotice p s).map = s.map ∧ (State.decideNotice p s).engine = s.engine ∧ (State.decideNotice p s).ilu
    = s.ilu ∧ (State.decideNotice p s).xmm = s.xmm ∧ (State.decideNotice p s).gate = s.gate ∧ (State.decideNotice p
    s).inbound = s.inbound ∧ (State.decideNotice p s).log = s.log ∧ (State.decideNotice p s).settings = s.settings
    := by
  and_intros <;> first | rfl | (simp only [State.decideNotice]; (repeat' split) <;> simp)

@[simp] theorem State.decideFaultReport_keeps (p : FaultReportPacket) (s : State) : (State.decideFaultReport p
    s).pending = s.pending ∧ (State.decideFaultReport p s).sched = s.sched ∧ (State.decideFaultReport p s).raised =
    s.raised ∧ (State.decideFaultReport p s).pins = s.pins ∧ (State.decideFaultReport p s).power = s.power ∧
    (State.decideFaultReport p s).host = s.host ∧ (State.decideFaultReport p s).addr = s.addr ∧
    (State.decideFaultReport p s).streams = s.streams ∧ (State.decideFaultReport p s).map = s.map ∧
    (State.decideFaultReport p s).engine = s.engine ∧ (State.decideFaultReport p s).ilu = s.ilu ∧
    (State.decideFaultReport p s).xmm = s.xmm ∧ (State.decideFaultReport p s).gate = s.gate ∧
    (State.decideFaultReport p s).inbound = s.inbound ∧ (State.decideFaultReport p s).log = s.log ∧
    (State.decideFaultReport p s).settings = s.settings := by
  and_intros <;> first | rfl | (simp only [State.decideFaultReport]; (repeat' split) <;> simp)

@[simp] theorem State.decideRecall_keeps (p : NoticePacket) (s : State) : (State.decideRecall p s).pending =
    s.pending ∧ (State.decideRecall p s).sched = s.sched ∧ (State.decideRecall p s).raised = s.raised ∧
    (State.decideRecall p s).pins = s.pins ∧ (State.decideRecall p s).power = s.power ∧ (State.decideRecall p
    s).host = s.host ∧ (State.decideRecall p s).addr = s.addr ∧ (State.decideRecall p s).streams = s.streams ∧
    (State.decideRecall p s).map = s.map ∧ (State.decideRecall p s).engine = s.engine ∧ (State.decideRecall p s).ilu
    = s.ilu ∧ (State.decideRecall p s).xmm = s.xmm ∧ (State.decideRecall p s).gate = s.gate ∧ (State.decideRecall p
    s).inbound = s.inbound ∧ (State.decideRecall p s).log = s.log ∧ (State.decideRecall p s).settings = s.settings
    := by
  and_intros <;> first | rfl | (simp only [State.decideRecall]; (repeat' split) <;> simp)

@[simp] theorem State.receiveNotice_keeps (p : NoticePacket) (s : State) : (State.receiveNotice p s).pending =
    s.pending ∧ (State.receiveNotice p s).sched = s.sched ∧ (State.receiveNotice p s).raised = s.raised ∧
    (State.receiveNotice p s).pins = s.pins ∧ (State.receiveNotice p s).power = s.power ∧ (State.receiveNotice p
    s).host = s.host ∧ (State.receiveNotice p s).addr = s.addr ∧ (State.receiveNotice p s).streams = s.streams ∧
    (State.receiveNotice p s).map = s.map ∧ (State.receiveNotice p s).engine = s.engine ∧ (State.receiveNotice p
    s).ilu = s.ilu ∧ (State.receiveNotice p s).xmm = s.xmm ∧ (State.receiveNotice p s).gate = s.gate ∧
    (State.receiveNotice p s).inbound = s.inbound ∧ (State.receiveNotice p s).log = s.log ∧ (State.receiveNotice p
    s).settings = s.settings := by
  and_intros <;> first | rfl | (simp only [State.receiveNotice]; (repeat' split) <;> simp)

@[simp] theorem State.receiveRecall_keeps (p : NoticePacket) (s : State) : (State.receiveRecall p s).pending =
    s.pending ∧ (State.receiveRecall p s).sched = s.sched ∧ (State.receiveRecall p s).raised = s.raised ∧
    (State.receiveRecall p s).pins = s.pins ∧ (State.receiveRecall p s).power = s.power ∧ (State.receiveRecall p
    s).host = s.host ∧ (State.receiveRecall p s).addr = s.addr ∧ (State.receiveRecall p s).streams = s.streams ∧
    (State.receiveRecall p s).map = s.map ∧ (State.receiveRecall p s).engine = s.engine ∧ (State.receiveRecall p
    s).ilu = s.ilu ∧ (State.receiveRecall p s).xmm = s.xmm ∧ (State.receiveRecall p s).gate = s.gate ∧
    (State.receiveRecall p s).inbound = s.inbound ∧ (State.receiveRecall p s).log = s.log ∧ (State.receiveRecall p
    s).settings = s.settings := by
  and_intros <;> first | rfl | (simp only [State.receiveRecall]; (repeat' split) <;> simp)

@[simp] theorem State.receiveFaultReport_keeps (p : FaultReportPacket) (s : State) : (State.receiveFaultReport p
    s).pending = s.pending ∧ (State.receiveFaultReport p s).sched = s.sched ∧ (State.receiveFaultReport p s).raised
    = s.raised ∧ (State.receiveFaultReport p s).pins = s.pins ∧ (State.receiveFaultReport p s).power = s.power ∧
    (State.receiveFaultReport p s).host = s.host ∧ (State.receiveFaultReport p s).addr = s.addr ∧
    (State.receiveFaultReport p s).streams = s.streams ∧ (State.receiveFaultReport p s).map = s.map ∧
    (State.receiveFaultReport p s).engine = s.engine ∧ (State.receiveFaultReport p s).ilu = s.ilu ∧
    (State.receiveFaultReport p s).xmm = s.xmm ∧ (State.receiveFaultReport p s).gate = s.gate ∧
    (State.receiveFaultReport p s).inbound = s.inbound ∧ (State.receiveFaultReport p s).log = s.log ∧
    (State.receiveFaultReport p s).settings = s.settings := by
  and_intros <;> first | rfl | (simp only [State.receiveFaultReport]; (repeat' split) <;> simp)

@[simp] theorem State.decideBeat_keeps (p : BeatPacket) (s : State) : (State.decideBeat p s).pending = s.pending ∧
    (State.decideBeat p s).pins = s.pins ∧ (State.decideBeat p s).power = s.power ∧ (State.decideBeat p s).host =
    s.host ∧ (State.decideBeat p s).addr = s.addr ∧ (State.decideBeat p s).map = s.map ∧ (State.decideBeat p s).xmm
    = s.xmm ∧ (State.decideBeat p s).gate = s.gate ∧ (State.decideBeat p s).inbound = s.inbound ∧ (State.decideBeat
    p s).notices = s.notices ∧ (State.decideBeat p s).log = s.log ∧ (State.decideBeat p s).settings = s.settings :=
    by
  and_intros <;> first | rfl | (simp only [State.decideBeat]; (repeat' split) <;> simp)

@[simp] theorem State.receiveBeat_keeps (p : BeatPacket) (s : State) : (State.receiveBeat p s).pending = s.pending ∧
    (State.receiveBeat p s).pins = s.pins ∧ (State.receiveBeat p s).power = s.power ∧ (State.receiveBeat p s).host =
    s.host ∧ (State.receiveBeat p s).addr = s.addr ∧ (State.receiveBeat p s).map = s.map ∧ (State.receiveBeat p
    s).xmm = s.xmm ∧ (State.receiveBeat p s).gate = s.gate ∧ (State.receiveBeat p s).inbound = s.inbound ∧
    (State.receiveBeat p s).notices = s.notices ∧ (State.receiveBeat p s).log = s.log ∧ (State.receiveBeat p
    s).settings = s.settings := by
  and_intros <;> first | rfl | (simp only [State.receiveBeat]; (repeat' split) <;> simp)

@[simp] theorem State.offerBeat_keeps (b : OwedBeat) (s : State) : (State.offerBeat b s).pending = s.pending ∧
    (State.offerBeat b s).sched = s.sched ∧ (State.offerBeat b s).raised = s.raised ∧ (State.offerBeat b s).pins =
    s.pins ∧ (State.offerBeat b s).power = s.power ∧ (State.offerBeat b s).host = s.host ∧ (State.offerBeat b
    s).addr = s.addr ∧ (State.offerBeat b s).streams = s.streams ∧ (State.offerBeat b s).map = s.map ∧
    (State.offerBeat b s).ilu = s.ilu ∧ (State.offerBeat b s).xmm = s.xmm ∧ (State.offerBeat b s).gate = s.gate ∧
    (State.offerBeat b s).notices = s.notices ∧ (State.offerBeat b s).log = s.log ∧ (State.offerBeat b s).settings =
    s.settings := by
  and_intros <;> rfl

@[simp] theorem State.offerReport_keeps (e : ReportEntry) (s : State) : (State.offerReport e s).pending = s.pending
    ∧ (State.offerReport e s).sched = s.sched ∧ (State.offerReport e s).raised = s.raised ∧ (State.offerReport e
    s).pins = s.pins ∧ (State.offerReport e s).power = s.power ∧ (State.offerReport e s).host = s.host ∧
    (State.offerReport e s).addr = s.addr ∧ (State.offerReport e s).streams = s.streams ∧ (State.offerReport e
    s).map = s.map ∧ (State.offerReport e s).ilu = s.ilu ∧ (State.offerReport e s).xmm = s.xmm ∧ (State.offerReport
    e s).gate = s.gate ∧ (State.offerReport e s).inbound = s.inbound ∧ (State.offerReport e s).notices = s.notices ∧
    (State.offerReport e s).log = s.log ∧ (State.offerReport e s).settings = s.settings := by
  and_intros <;> rfl

@[simp] theorem State.offerRequest_keeps (p : SendPoint) (s : State) : (State.offerRequest p s).pending = s.pending
    ∧ (State.offerRequest p s).sched = s.sched ∧ (State.offerRequest p s).raised = s.raised ∧ (State.offerRequest p
    s).pins = s.pins ∧ (State.offerRequest p s).power = s.power ∧ (State.offerRequest p s).host = s.host ∧
    (State.offerRequest p s).addr = s.addr ∧ (State.offerRequest p s).streams = s.streams ∧ (State.offerRequest p
    s).map = s.map ∧ (State.offerRequest p s).ilu = s.ilu ∧ (State.offerRequest p s).xmm = s.xmm ∧
    (State.offerRequest p s).gate = s.gate ∧ (State.offerRequest p s).inbound = s.inbound ∧ (State.offerRequest p
    s).notices = s.notices ∧ (State.offerRequest p s).log = s.log ∧ (State.offerRequest p s).settings = s.settings
    := by
  and_intros <;> rfl

@[simp] theorem State.sendTurn_keeps (s : State) : (State.sendTurn s).pending = s.pending ∧ (State.sendTurn s).sched
    = s.sched ∧ (State.sendTurn s).raised = s.raised ∧ (State.sendTurn s).pins = s.pins ∧ (State.sendTurn s).power =
    s.power ∧ (State.sendTurn s).host = s.host ∧ (State.sendTurn s).addr = s.addr ∧ (State.sendTurn s).streams =
    s.streams ∧ (State.sendTurn s).map = s.map ∧ (State.sendTurn s).ilu = s.ilu ∧ (State.sendTurn s).xmm = s.xmm ∧
    (State.sendTurn s).gate = s.gate ∧ (State.sendTurn s).notices = s.notices ∧ (State.sendTurn s).log = s.log ∧
    (State.sendTurn s).settings = s.settings := by
  and_intros <;> first | rfl | (simp only [State.sendTurn]; (repeat' split) <;> simp)

@[simp] theorem State.expireClaim_keeps (s : State) : (State.expireClaim s).pending = s.pending ∧ (State.expireClaim
    s).sched = s.sched ∧ (State.expireClaim s).pins = s.pins ∧ (State.expireClaim s).power = s.power ∧
    (State.expireClaim s).host = s.host ∧ (State.expireClaim s).addr = s.addr ∧ (State.expireClaim s).streams =
    s.streams ∧ (State.expireClaim s).map = s.map ∧ (State.expireClaim s).engine = s.engine ∧ (State.expireClaim
    s).xmm = s.xmm ∧ (State.expireClaim s).gate = s.gate ∧ (State.expireClaim s).inbound = s.inbound ∧
    (State.expireClaim s).notices = s.notices ∧ (State.expireClaim s).log = s.log ∧ (State.expireClaim s).settings =
    s.settings ∧ (State.expireClaim s).out = s.out := by
  and_intros <;> rfl

@[simp] theorem State.expire_keeps (t : TimerId) (s : State) : (State.expire t s).pending = s.pending ∧
    (State.expire t s).pins = s.pins ∧ (State.expire t s).power = s.power ∧ (State.expire t s).host = s.host ∧
    (State.expire t s).addr = s.addr ∧ (State.expire t s).map = s.map ∧ (State.expire t s).xmm = s.xmm ∧
    (State.expire t s).gate = s.gate ∧ (State.expire t s).notices = s.notices ∧ (State.expire t s).log = s.log ∧
    (State.expire t s).settings = s.settings ∧ (State.expire t s).out = s.out := by
  and_intros <;> first | rfl | (simp only [State.expire]; (repeat' split) <;> simp)

@[simp] theorem State.expireAll_keeps (s : State) (n : Nat) : (State.expireAll s n).pending = s.pending ∧
    (State.expireAll s n).pins = s.pins ∧ (State.expireAll s n).power = s.power ∧ (State.expireAll s n).host =
    s.host ∧ (State.expireAll s n).addr = s.addr ∧ (State.expireAll s n).map = s.map ∧ (State.expireAll s n).xmm =
    s.xmm ∧ (State.expireAll s n).gate = s.gate ∧ (State.expireAll s n).notices = s.notices ∧ (State.expireAll s
    n).log = s.log ∧ (State.expireAll s n).settings = s.settings ∧ (State.expireAll s n).out = s.out := by
  induction n generalizing s with
  | zero => and_intros <;> rfl
  | succ n ih => simp only [State.expireAll]; split <;> simp [ih]

@[simp] theorem State.releaseWaiting_keeps (s : State) : (State.releaseWaiting s).pending = s.pending ∧
    (State.releaseWaiting s).sched = s.sched ∧ (State.releaseWaiting s).raised = s.raised ∧ (State.releaseWaiting
    s).pins = s.pins ∧ (State.releaseWaiting s).power = s.power ∧ (State.releaseWaiting s).host = s.host ∧
    (State.releaseWaiting s).addr = s.addr ∧ (State.releaseWaiting s).streams = s.streams ∧ (State.releaseWaiting
    s).map = s.map ∧ (State.releaseWaiting s).xmm = s.xmm ∧ (State.releaseWaiting s).gate = s.gate ∧
    (State.releaseWaiting s).notices = s.notices ∧ (State.releaseWaiting s).log = s.log ∧ (State.releaseWaiting
    s).settings = s.settings ∧ (State.releaseWaiting s).out = s.out := by
  and_intros <;> rfl

@[simp] theorem State.finishTimers_keeps (s : State) : (State.finishTimers s).pending = s.pending ∧
    (State.finishTimers s).pins = s.pins ∧ (State.finishTimers s).power = s.power ∧ (State.finishTimers s).host =
    s.host ∧ (State.finishTimers s).addr = s.addr ∧ (State.finishTimers s).map = s.map ∧ (State.finishTimers s).xmm
    = s.xmm ∧ (State.finishTimers s).gate = s.gate ∧ (State.finishTimers s).notices = s.notices ∧
    (State.finishTimers s).settings = s.settings ∧ (State.finishTimers s).out = s.out := by
  and_intros <;> first | rfl | simp [State.finishTimers]

@[simp] theorem State.passAct_keeps (a : PassAction) (s : State) : (State.passAct a s).pending = s.pending ∧
    (State.passAct a s).pins = s.pins ∧ (State.passAct a s).power = s.power ∧ (State.passAct a s).host = s.host ∧
    (State.passAct a s).addr = s.addr ∧ (State.passAct a s).map = s.map ∧ (State.passAct a s).gate = s.gate ∧
    (State.passAct a s).notices = s.notices ∧ (State.passAct a s).log = s.log ∧ (State.passAct a s).settings =
    s.settings ∧ (State.passAct a s).out = s.out := by
  and_intros <;> first | rfl | (simp only [State.passAct]; (repeat' split) <;> simp)

@[simp] theorem State.passAll_keeps (s : State) (n : Nat) : (State.passAll s n).pending = s.pending ∧ (State.passAll
    s n).pins = s.pins ∧ (State.passAll s n).power = s.power ∧ (State.passAll s n).host = s.host ∧ (State.passAll s
    n).addr = s.addr ∧ (State.passAll s n).map = s.map ∧ (State.passAll s n).gate = s.gate ∧ (State.passAll s
    n).notices = s.notices ∧ (State.passAll s n).log = s.log ∧ (State.passAll s n).settings = s.settings ∧
    (State.passAll s n).out = s.out := by
  induction n generalizing s with
  | zero => and_intros <;> rfl
  | succ n ih => simp only [State.passAll]; split <;> simp [ih]

@[simp] theorem State.drainTest_keeps (s : State) : (State.drainTest s).pending = s.pending ∧ (State.drainTest
    s).sched = s.sched ∧ (State.drainTest s).raised = s.raised ∧ (State.drainTest s).pins = s.pins ∧
    (State.drainTest s).power = s.power ∧ (State.drainTest s).addr = s.addr ∧ (State.drainTest s).streams =
    s.streams ∧ (State.drainTest s).map = s.map ∧ (State.drainTest s).engine = s.engine ∧ (State.drainTest s).ilu =
    s.ilu ∧ (State.drainTest s).xmm = s.xmm ∧ (State.drainTest s).gate = s.gate ∧ (State.drainTest s).inbound =
    s.inbound ∧ (State.drainTest s).notices = s.notices ∧ (State.drainTest s).log = s.log ∧ (State.drainTest
    s).settings = s.settings ∧ (State.drainTest s).out = s.out := by
  and_intros <;> first | rfl | (simp only [State.drainTest]; (repeat' split) <;> simp)

@[simp] theorem State.startPass_keeps (s : State) : (State.startPass s).pending = s.pending ∧ (State.startPass
    s).raised = s.raised ∧ (State.startPass s).pins = s.pins ∧ (State.startPass s).power = s.power ∧
    (State.startPass s).host = s.host ∧ (State.startPass s).addr = s.addr ∧ (State.startPass s).streams = s.streams
    ∧ (State.startPass s).map = s.map ∧ (State.startPass s).engine = s.engine ∧ (State.startPass s).xmm = s.xmm ∧
    (State.startPass s).gate = s.gate ∧ (State.startPass s).inbound = s.inbound ∧ (State.startPass s).notices =
    s.notices ∧ (State.startPass s).log = s.log ∧ (State.startPass s).settings = s.settings ∧ (State.startPass
    s).out = s.out := by
  and_intros <;> first | rfl | (simp only [State.startPass]; (repeat' split) <;> simp)

@[simp] theorem State.leaveTimers_keeps (s : State) : (State.leaveTimers s).pending = s.pending ∧ (State.leaveTimers
    s).pins = s.pins ∧ (State.leaveTimers s).power = s.power ∧ (State.leaveTimers s).host = s.host ∧
    (State.leaveTimers s).addr = s.addr ∧ (State.leaveTimers s).map = s.map ∧ (State.leaveTimers s).xmm = s.xmm ∧
    (State.leaveTimers s).gate = s.gate ∧ (State.leaveTimers s).notices = s.notices ∧ (State.leaveTimers s).settings
    = s.settings ∧ (State.leaveTimers s).out = s.out := by
  and_intros <;> first | rfl | (simp only [State.leaveTimers]; (repeat' split) <;> simp)

@[simp] theorem State.advance_keeps (p : Phase) (s : State) : (State.advance p s).pending = s.pending ∧
    (State.advance p s).pins = s.pins ∧ (State.advance p s).power = s.power ∧ (State.advance p s).host = s.host ∧
    (State.advance p s).addr = s.addr ∧ (State.advance p s).map = s.map ∧ (State.advance p s).xmm = s.xmm ∧
    (State.advance p s).gate = s.gate ∧ (State.advance p s).notices = s.notices ∧ (State.advance p s).settings =
    s.settings ∧ (State.advance p s).out = s.out := by
  and_intros <;> first | rfl | (simp only [State.advance]; (repeat' split) <;> simp)

@[simp] theorem State.toPass_keeps (s : State) : (State.toPass s).pending = s.pending ∧ (State.toPass s).pins =
    s.pins ∧ (State.toPass s).power = s.power ∧ (State.toPass s).host = s.host ∧ (State.toPass s).addr = s.addr ∧
    (State.toPass s).map = s.map ∧ (State.toPass s).xmm = s.xmm ∧ (State.toPass s).gate = s.gate ∧ (State.toPass
    s).notices = s.notices ∧ (State.toPass s).settings = s.settings ∧ (State.toPass s).out = s.out := by
  and_intros <;> first | rfl | (simp only [State.toPass]; (repeat' split) <;> simp)

@[simp] theorem State.closeStep_keeps (s : State) : (State.closeStep s).pending = s.pending ∧ (State.closeStep
    s).pins = s.pins ∧ (State.closeStep s).power = s.power ∧ (State.closeStep s).addr = s.addr ∧ (State.closeStep
    s).map = s.map ∧ (State.closeStep s).gate = s.gate ∧ (State.closeStep s).notices = s.notices ∧ (State.closeStep
    s).settings = s.settings ∧ (State.closeStep s).out = s.out := by
  and_intros <;> first | rfl | (simp only [State.closeStep]; (repeat' split) <;> simp)

@[simp] theorem State.openStep_keeps (p : Phase) (s : State) : (State.openStep p s).pending = s.pending ∧
    (State.openStep p s).raised = s.raised ∧ (State.openStep p s).pins = s.pins ∧ (State.openStep p s).power =
    s.power ∧ (State.openStep p s).host = s.host ∧ (State.openStep p s).addr = s.addr ∧ (State.openStep p s).streams
    = s.streams ∧ (State.openStep p s).map = s.map ∧ (State.openStep p s).engine = s.engine ∧ (State.openStep p
    s).xmm = s.xmm ∧ (State.openStep p s).gate = s.gate ∧ (State.openStep p s).inbound = s.inbound ∧ (State.openStep
    p s).notices = s.notices ∧ (State.openStep p s).log = s.log ∧ (State.openStep p s).settings = s.settings ∧
    (State.openStep p s).out = s.out := by
  and_intros <;> first | rfl | (simp only [State.openStep]; (repeat' split) <;> simp)

@[simp] theorem State.enter_keeps (p : Phase) (s : State) : (State.enter p s).pending = s.pending ∧ (State.enter p
    s).pins = s.pins ∧ (State.enter p s).power = s.power ∧ (State.enter p s).addr = s.addr ∧ (State.enter p s).map =
    s.map ∧ (State.enter p s).gate = s.gate ∧ (State.enter p s).notices = s.notices ∧ (State.enter p s).settings =
    s.settings ∧ (State.enter p s).out = s.out := by
  and_intros <;> first | rfl | (simp only [State.enter]; (repeat' split) <;> simp)

@[simp] theorem State.loadReport_keeps (bytes : List Byte) (s : State) : (State.loadReport bytes s).pending =
    s.pending ∧ (State.loadReport bytes s).sched = s.sched ∧ (State.loadReport bytes s).raised = s.raised ∧
    (State.loadReport bytes s).pins = s.pins ∧ (State.loadReport bytes s).power = s.power ∧ (State.loadReport bytes
    s).addr = s.addr ∧ (State.loadReport bytes s).streams = s.streams ∧ (State.loadReport bytes s).map = s.map ∧
    (State.loadReport bytes s).engine = s.engine ∧ (State.loadReport bytes s).ilu = s.ilu ∧ (State.loadReport bytes
    s).xmm = s.xmm ∧ (State.loadReport bytes s).gate = s.gate ∧ (State.loadReport bytes s).inbound = s.inbound ∧
    (State.loadReport bytes s).notices = s.notices ∧ (State.loadReport bytes s).log = s.log ∧ (State.loadReport
    bytes s).settings = s.settings ∧ (State.loadReport bytes s).out = s.out := by
  and_intros <;> rfl

@[simp] theorem State.readReport_keeps (s : State) : (State.readReport s).1.pending = s.pending ∧ (State.readReport
    s).1.sched = s.sched ∧ (State.readReport s).1.pins = s.pins ∧ (State.readReport s).1.power = s.power ∧
    (State.readReport s).1.addr = s.addr ∧ (State.readReport s).1.streams = s.streams ∧ (State.readReport s).1.map =
    s.map ∧ (State.readReport s).1.engine = s.engine ∧ (State.readReport s).1.ilu = s.ilu ∧ (State.readReport
    s).1.xmm = s.xmm ∧ (State.readReport s).1.gate = s.gate ∧ (State.readReport s).1.inbound = s.inbound ∧
    (State.readReport s).1.notices = s.notices ∧ (State.readReport s).1.log = s.log ∧ (State.readReport
    s).1.settings = s.settings ∧ (State.readReport s).1.out = s.out := by
  and_intros <;> first | rfl | (simp only [State.readReport]; (repeat' split) <;> simp)

@[simp] theorem State.restart_keeps (s : State) : (State.restart s).pending = s.pending ∧ (State.restart s).sched =
    s.sched ∧ (State.restart s).raised = s.raised ∧ (State.restart s).pins = s.pins ∧ (State.restart s).map = s.map
    ∧ (State.restart s).gate = s.gate ∧ (State.restart s).log = s.log ∧ (State.restart s).settings = s.settings ∧
    (State.restart s).out = s.out := by
  and_intros <;> rfl

@[simp] theorem State.spanClear_keeps (s : State) : (State.spanClear s).pending = s.pending ∧ (State.spanClear
    s).sched = s.sched ∧ (State.spanClear s).raised = s.raised ∧ (State.spanClear s).pins = s.pins ∧
    (State.spanClear s).power = s.power ∧ (State.spanClear s).host = s.host ∧ (State.spanClear s).addr = s.addr ∧
    (State.spanClear s).map = s.map ∧ (State.spanClear s).gate = s.gate ∧ (State.spanClear s).log = s.log ∧
    (State.spanClear s).settings = s.settings ∧ (State.spanClear s).out = s.out := by
  and_intros <;> rfl

@[simp] theorem State.assertSpanReset_keeps (s : State) : (State.assertSpanReset s).pending = s.pending ∧
    (State.assertSpanReset s).sched = s.sched ∧ (State.assertSpanReset s).power = s.power ∧ (State.assertSpanReset
    s).host = s.host ∧ (State.assertSpanReset s).addr = s.addr ∧ (State.assertSpanReset s).map = s.map ∧
    (State.assertSpanReset s).gate = s.gate ∧ (State.assertSpanReset s).log = s.log ∧ (State.assertSpanReset
    s).settings = s.settings ∧ (State.assertSpanReset s).out = s.out := by
  and_intros <;> rfl

@[simp] theorem State.hold_keeps (kind : ResetKind) (straps : Node) (prior : Option ApertureNumber) (s : State) :
    (State.hold kind straps prior s).pending = s.pending ∧ (State.hold kind straps prior s).host = s.host ∧
    (State.hold kind straps prior s).addr = s.addr ∧ (State.hold kind straps prior s).streams = s.streams ∧
    (State.hold kind straps prior s).map = s.map ∧ (State.hold kind straps prior s).xmm = s.xmm ∧ (State.hold kind
    straps prior s).gate = s.gate ∧ (State.hold kind straps prior s).inbound = s.inbound ∧ (State.hold kind straps
    prior s).notices = s.notices ∧ (State.hold kind straps prior s).log = s.log ∧ (State.hold kind straps prior
    s).settings = s.settings ∧ (State.hold kind straps prior s).out = s.out := by
  and_intros <;> rfl

@[simp] theorem State.startPinReset_keeps (straps : Node) (s : State) : (State.startPinReset straps s).pending =
    s.pending ∧ (State.startPinReset straps s).host = s.host ∧ (State.startPinReset straps s).addr = s.addr ∧
    (State.startPinReset straps s).streams = s.streams ∧ (State.startPinReset straps s).map = s.map ∧
    (State.startPinReset straps s).xmm = s.xmm ∧ (State.startPinReset straps s).gate = s.gate ∧ (State.startPinReset
    straps s).inbound = s.inbound ∧ (State.startPinReset straps s).notices = s.notices ∧ (State.startPinReset straps
    s).log = s.log ∧ (State.startPinReset straps s).settings = s.settings ∧ (State.startPinReset straps s).out =
    s.out := by
  and_intros <;> first | rfl | (simp only [State.startPinReset]; (repeat' split) <;> simp)

@[simp] theorem State.endReset_keeps (s : State) : (State.endReset s).pending = s.pending ∧ (State.endReset s).sched
    = s.sched ∧ (State.endReset s).raised = s.raised ∧ (State.endReset s).pins = s.pins ∧ (State.endReset s).host =
    s.host ∧ (State.endReset s).addr = s.addr ∧ (State.endReset s).streams = s.streams ∧ (State.endReset s).map =
    s.map ∧ (State.endReset s).engine = s.engine ∧ (State.endReset s).ilu = s.ilu ∧ (State.endReset s).xmm = s.xmm ∧
    (State.endReset s).gate = s.gate ∧ (State.endReset s).inbound = s.inbound ∧ (State.endReset s).notices =
    s.notices ∧ (State.endReset s).log = s.log ∧ (State.endReset s).settings = s.settings ∧ (State.endReset s).out =
    s.out := by
  and_intros <;> first | rfl | (simp only [State.endReset]; (repeat' split) <;> simp)

@[simp] theorem State.initialized_keeps (k : ResetKind) (s : State) : (State.initialized k s).pending = s.pending ∧
    (State.initialized k s).pins = s.pins ∧ (State.initialized k s).out = s.out := by
  and_intros <;> rfl

@[simp] theorem State.endInitialization_keeps (s : State) : (State.endInitialization s).pending = s.pending ∧
    (State.endInitialization s).pins = s.pins ∧ (State.endInitialization s).out = s.out := by
  and_intros <;> first | rfl | (simp only [State.endInitialization]; (repeat' split) <;> simp)

@[simp] theorem State.paramRange_keeps (s : State) : (State.paramRange s).pending = s.pending ∧ (State.paramRange
    s).sched = s.sched ∧ (State.paramRange s).pins = s.pins ∧ (State.paramRange s).power = s.power ∧
    (State.paramRange s).host = s.host ∧ (State.paramRange s).addr = s.addr ∧ (State.paramRange s).streams =
    s.streams ∧ (State.paramRange s).map = s.map ∧ (State.paramRange s).engine = s.engine ∧ (State.paramRange s).ilu
    = s.ilu ∧ (State.paramRange s).xmm = s.xmm ∧ (State.paramRange s).gate = s.gate ∧ (State.paramRange s).inbound =
    s.inbound ∧ (State.paramRange s).notices = s.notices ∧ (State.paramRange s).log = s.log ∧ (State.paramRange
    s).settings = s.settings ∧ (State.paramRange s).out = s.out := by
  and_intros <;> rfl

@[simp] theorem State.setAddr_keeps (a : Option Addressing) (s : State) : (State.setAddr a s).pending = s.pending ∧
    (State.setAddr a s).sched = s.sched ∧ (State.setAddr a s).pins = s.pins ∧ (State.setAddr a s).power = s.power ∧
    (State.setAddr a s).host = s.host ∧ (State.setAddr a s).streams = s.streams ∧ (State.setAddr a s).map = s.map ∧
    (State.setAddr a s).engine = s.engine ∧ (State.setAddr a s).ilu = s.ilu ∧ (State.setAddr a s).xmm = s.xmm ∧
    (State.setAddr a s).gate = s.gate ∧ (State.setAddr a s).inbound = s.inbound ∧ (State.setAddr a s).notices =
    s.notices ∧ (State.setAddr a s).log = s.log ∧ (State.setAddr a s).settings = s.settings ∧ (State.setAddr a
    s).out = s.out := by
  and_intros <;> first | rfl | (simp only [State.setAddr]; (repeat' split) <;> simp)

@[simp] theorem State.setDecoder_keeps (d : Decoder) (s : State) : (State.setDecoder d s).pending = s.pending ∧
    (State.setDecoder d s).sched = s.sched ∧ (State.setDecoder d s).raised = s.raised ∧ (State.setDecoder d s).pins
    = s.pins ∧ (State.setDecoder d s).power = s.power ∧ (State.setDecoder d s).addr = s.addr ∧ (State.setDecoder d
    s).streams = s.streams ∧ (State.setDecoder d s).map = s.map ∧ (State.setDecoder d s).engine = s.engine ∧
    (State.setDecoder d s).ilu = s.ilu ∧ (State.setDecoder d s).xmm = s.xmm ∧ (State.setDecoder d s).gate = s.gate ∧
    (State.setDecoder d s).inbound = s.inbound ∧ (State.setDecoder d s).notices = s.notices ∧ (State.setDecoder d
    s).log = s.log ∧ (State.setDecoder d s).settings = s.settings ∧ (State.setDecoder d s).out = s.out := by
  and_intros <;> rfl

@[simp] theorem State.directionCmd_keeps (d : Byte) (s : State) : (State.directionCmd d s).pending = s.pending ∧
    (State.directionCmd d s).sched = s.sched ∧ (State.directionCmd d s).pins = s.pins ∧ (State.directionCmd d
    s).power = s.power ∧ (State.directionCmd d s).host = s.host ∧ (State.directionCmd d s).streams = s.streams ∧
    (State.directionCmd d s).map = s.map ∧ (State.directionCmd d s).engine = s.engine ∧ (State.directionCmd d s).ilu
    = s.ilu ∧ (State.directionCmd d s).xmm = s.xmm ∧ (State.directionCmd d s).gate = s.gate ∧ (State.directionCmd d
    s).inbound = s.inbound ∧ (State.directionCmd d s).notices = s.notices ∧ (State.directionCmd d s).log = s.log ∧
    (State.directionCmd d s).settings = s.settings ∧ (State.directionCmd d s).out = s.out := by
  and_intros <;> first | rfl | (simp only [State.directionCmd]; (repeat' split) <;> simp)

@[simp] theorem State.windowLimitCmd_keeps (low high : Byte) (s : State) : (State.windowLimitCmd low high s).pending
    = s.pending ∧ (State.windowLimitCmd low high s).sched = s.sched ∧ (State.windowLimitCmd low high s).pins =
    s.pins ∧ (State.windowLimitCmd low high s).power = s.power ∧ (State.windowLimitCmd low high s).host = s.host ∧
    (State.windowLimitCmd low high s).streams = s.streams ∧ (State.windowLimitCmd low high s).map = s.map ∧
    (State.windowLimitCmd low high s).engine = s.engine ∧ (State.windowLimitCmd low high s).ilu = s.ilu ∧
    (State.windowLimitCmd low high s).xmm = s.xmm ∧ (State.windowLimitCmd low high s).gate = s.gate ∧
    (State.windowLimitCmd low high s).inbound = s.inbound ∧ (State.windowLimitCmd low high s).notices = s.notices ∧
    (State.windowLimitCmd low high s).log = s.log ∧ (State.windowLimitCmd low high s).settings = s.settings ∧
    (State.windowLimitCmd low high s).out = s.out := by
  and_intros <;> first | rfl | (simp only [State.windowLimitCmd]; (repeat' split) <;> simp)

@[simp] theorem State.readStreamCmd_keeps (s : State) : (State.readStreamCmd s).pending = s.pending ∧
    (State.readStreamCmd s).pins = s.pins ∧ (State.readStreamCmd s).power = s.power ∧ (State.readStreamCmd s).addr =
    s.addr ∧ (State.readStreamCmd s).ilu = s.ilu ∧ (State.readStreamCmd s).xmm = s.xmm ∧ (State.readStreamCmd
    s).gate = s.gate ∧ (State.readStreamCmd s).inbound = s.inbound ∧ (State.readStreamCmd s).notices = s.notices ∧
    (State.readStreamCmd s).log = s.log ∧ (State.readStreamCmd s).settings = s.settings ∧ (State.readStreamCmd
    s).out = s.out := by
  and_intros <;> first | rfl | simp [State.readStreamCmd]

@[simp] theorem State.drainCmd_keeps (s : State) : (State.drainCmd s).pending = s.pending ∧ (State.drainCmd s).sched
    = s.sched ∧ (State.drainCmd s).raised = s.raised ∧ (State.drainCmd s).pins = s.pins ∧ (State.drainCmd s).power =
    s.power ∧ (State.drainCmd s).addr = s.addr ∧ (State.drainCmd s).streams = s.streams ∧ (State.drainCmd s).map =
    s.map ∧ (State.drainCmd s).engine = s.engine ∧ (State.drainCmd s).ilu = s.ilu ∧ (State.drainCmd s).xmm = s.xmm ∧
    (State.drainCmd s).gate = s.gate ∧ (State.drainCmd s).inbound = s.inbound ∧ (State.drainCmd s).notices =
    s.notices ∧ (State.drainCmd s).log = s.log ∧ (State.drainCmd s).settings = s.settings ∧ (State.drainCmd s).out =
    s.out := by
  and_intros <;> first | rfl | simp [State.drainCmd]

@[simp] theorem State.mapWriteCmd_keeps (index flags b0 b1 b2 b3 : Byte) (s : State) : (State.mapWriteCmd index
    flags b0 b1 b2 b3 s).pending = s.pending ∧ (State.mapWriteCmd index flags b0 b1 b2 b3 s).sched = s.sched ∧
    (State.mapWriteCmd index flags b0 b1 b2 b3 s).pins = s.pins ∧ (State.mapWriteCmd index flags b0 b1 b2 b3
    s).power = s.power ∧ (State.mapWriteCmd index flags b0 b1 b2 b3 s).host = s.host ∧ (State.mapWriteCmd index
    flags b0 b1 b2 b3 s).addr = s.addr ∧ (State.mapWriteCmd index flags b0 b1 b2 b3 s).streams = s.streams ∧
    (State.mapWriteCmd index flags b0 b1 b2 b3 s).engine = s.engine ∧ (State.mapWriteCmd index flags b0 b1 b2 b3
    s).ilu = s.ilu ∧ (State.mapWriteCmd index flags b0 b1 b2 b3 s).xmm = s.xmm ∧ (State.mapWriteCmd index flags b0
    b1 b2 b3 s).gate = s.gate ∧ (State.mapWriteCmd index flags b0 b1 b2 b3 s).inbound = s.inbound ∧
    (State.mapWriteCmd index flags b0 b1 b2 b3 s).notices = s.notices ∧ (State.mapWriteCmd index flags b0 b1 b2 b3
    s).log = s.log ∧ (State.mapWriteCmd index flags b0 b1 b2 b3 s).settings = s.settings ∧ (State.mapWriteCmd index
    flags b0 b1 b2 b3 s).out = s.out := by
  and_intros <;> first | rfl | (simp only [State.mapWriteCmd]; (repeat' split) <;> simp)

@[simp] theorem State.mapWriteSupplied_keeps (index flags b0 b1 b2 b3 check : Byte) (s : State) :
    (State.mapWriteSupplied index flags b0 b1 b2 b3 check s).pending = s.pending ∧ (State.mapWriteSupplied index
    flags b0 b1 b2 b3 check s).sched = s.sched ∧ (State.mapWriteSupplied index flags b0 b1 b2 b3 check s).pins =
    s.pins ∧ (State.mapWriteSupplied index flags b0 b1 b2 b3 check s).power = s.power ∧ (State.mapWriteSupplied
    index flags b0 b1 b2 b3 check s).host = s.host ∧ (State.mapWriteSupplied index flags b0 b1 b2 b3 check s).addr =
    s.addr ∧ (State.mapWriteSupplied index flags b0 b1 b2 b3 check s).streams = s.streams ∧ (State.mapWriteSupplied
    index flags b0 b1 b2 b3 check s).engine = s.engine ∧ (State.mapWriteSupplied index flags b0 b1 b2 b3 check
    s).ilu = s.ilu ∧ (State.mapWriteSupplied index flags b0 b1 b2 b3 check s).xmm = s.xmm ∧ (State.mapWriteSupplied
    index flags b0 b1 b2 b3 check s).gate = s.gate ∧ (State.mapWriteSupplied index flags b0 b1 b2 b3 check
    s).inbound = s.inbound ∧ (State.mapWriteSupplied index flags b0 b1 b2 b3 check s).notices = s.notices ∧
    (State.mapWriteSupplied index flags b0 b1 b2 b3 check s).log = s.log ∧ (State.mapWriteSupplied index flags b0 b1
    b2 b3 check s).settings = s.settings ∧ (State.mapWriteSupplied index flags b0 b1 b2 b3 check s).out = s.out :=
    by
  and_intros <;> first | rfl | (simp only [State.mapWriteSupplied]; (repeat' split) <;> simp)

@[simp] theorem State.mapReadCmd_keeps (index : Byte) (s : State) : (State.mapReadCmd index s).pending = s.pending ∧
    (State.mapReadCmd index s).sched = s.sched ∧ (State.mapReadCmd index s).pins = s.pins ∧ (State.mapReadCmd index
    s).power = s.power ∧ (State.mapReadCmd index s).addr = s.addr ∧ (State.mapReadCmd index s).streams = s.streams ∧
    (State.mapReadCmd index s).engine = s.engine ∧ (State.mapReadCmd index s).ilu = s.ilu ∧ (State.mapReadCmd index
    s).xmm = s.xmm ∧ (State.mapReadCmd index s).gate = s.gate ∧ (State.mapReadCmd index s).inbound = s.inbound ∧
    (State.mapReadCmd index s).notices = s.notices ∧ (State.mapReadCmd index s).log = s.log ∧ (State.mapReadCmd
    index s).settings = s.settings ∧ (State.mapReadCmd index s).out = s.out := by
  and_intros <;> first | rfl | simp [State.mapReadCmd]

@[simp] theorem State.gateWriteCmd_keeps (index control kinds base mask low high : Byte) (s : State) :
    (State.gateWriteCmd index control kinds base mask low high s).pending = s.pending ∧ (State.gateWriteCmd index
    control kinds base mask low high s).sched = s.sched ∧ (State.gateWriteCmd index control kinds base mask low high
    s).pins = s.pins ∧ (State.gateWriteCmd index control kinds base mask low high s).power = s.power ∧
    (State.gateWriteCmd index control kinds base mask low high s).host = s.host ∧ (State.gateWriteCmd index control
    kinds base mask low high s).addr = s.addr ∧ (State.gateWriteCmd index control kinds base mask low high
    s).streams = s.streams ∧ (State.gateWriteCmd index control kinds base mask low high s).map = s.map ∧
    (State.gateWriteCmd index control kinds base mask low high s).engine = s.engine ∧ (State.gateWriteCmd index
    control kinds base mask low high s).ilu = s.ilu ∧ (State.gateWriteCmd index control kinds base mask low high
    s).xmm = s.xmm ∧ (State.gateWriteCmd index control kinds base mask low high s).inbound = s.inbound ∧
    (State.gateWriteCmd index control kinds base mask low high s).notices = s.notices ∧ (State.gateWriteCmd index
    control kinds base mask low high s).log = s.log ∧ (State.gateWriteCmd index control kinds base mask low high
    s).settings = s.settings ∧ (State.gateWriteCmd index control kinds base mask low high s).out = s.out := by
  and_intros <;> first | rfl | (simp only [State.gateWriteCmd]; (repeat' split) <;> simp)

@[simp] theorem State.gateReadCmd_keeps (index : Byte) (s : State) : (State.gateReadCmd index s).pending = s.pending
    ∧ (State.gateReadCmd index s).sched = s.sched ∧ (State.gateReadCmd index s).pins = s.pins ∧ (State.gateReadCmd
    index s).power = s.power ∧ (State.gateReadCmd index s).addr = s.addr ∧ (State.gateReadCmd index s).streams =
    s.streams ∧ (State.gateReadCmd index s).map = s.map ∧ (State.gateReadCmd index s).engine = s.engine ∧
    (State.gateReadCmd index s).ilu = s.ilu ∧ (State.gateReadCmd index s).xmm = s.xmm ∧ (State.gateReadCmd index
    s).gate = s.gate ∧ (State.gateReadCmd index s).inbound = s.inbound ∧ (State.gateReadCmd index s).notices =
    s.notices ∧ (State.gateReadCmd index s).log = s.log ∧ (State.gateReadCmd index s).settings = s.settings ∧
    (State.gateReadCmd index s).out = s.out := by
  and_intros <;> first | rfl | (simp only [State.gateReadCmd]; (repeat' split) <;> simp)

@[simp] theorem State.setCmd_keeps (id low high : Byte) (s : State) : (State.setCmd id low high s).pending =
    s.pending ∧ (State.setCmd id low high s).sched = s.sched ∧ (State.setCmd id low high s).pins = s.pins ∧
    (State.setCmd id low high s).power = s.power ∧ (State.setCmd id low high s).host = s.host ∧ (State.setCmd id low
    high s).addr = s.addr ∧ (State.setCmd id low high s).streams = s.streams ∧ (State.setCmd id low high s).map =
    s.map ∧ (State.setCmd id low high s).engine = s.engine ∧ (State.setCmd id low high s).ilu = s.ilu ∧
    (State.setCmd id low high s).xmm = s.xmm ∧ (State.setCmd id low high s).gate = s.gate ∧ (State.setCmd id low
    high s).inbound = s.inbound ∧ (State.setCmd id low high s).notices = s.notices ∧ (State.setCmd id low high
    s).log = s.log ∧ (State.setCmd id low high s).out = s.out := by
  and_intros <;> first | rfl | (simp only [State.setCmd]; (repeat' split) <;> simp)

@[simp] theorem State.reportCmd_keeps (id selector : Byte) (s : State) : (State.reportCmd id selector s).pending =
    s.pending ∧ (State.reportCmd id selector s).sched = s.sched ∧ (State.reportCmd id selector s).pins = s.pins ∧
    (State.reportCmd id selector s).power = s.power ∧ (State.reportCmd id selector s).addr = s.addr ∧
    (State.reportCmd id selector s).streams = s.streams ∧ (State.reportCmd id selector s).map = s.map ∧
    (State.reportCmd id selector s).engine = s.engine ∧ (State.reportCmd id selector s).ilu = s.ilu ∧
    (State.reportCmd id selector s).xmm = s.xmm ∧ (State.reportCmd id selector s).gate = s.gate ∧ (State.reportCmd
    id selector s).inbound = s.inbound ∧ (State.reportCmd id selector s).notices = s.notices ∧ (State.reportCmd id
    selector s).log = s.log ∧ (State.reportCmd id selector s).settings = s.settings ∧ (State.reportCmd id selector
    s).out = s.out := by
  and_intros <;> first | rfl | (simp only [State.reportCmd]; (repeat' split) <;> simp)

@[simp] theorem State.takeNoticeCmd_keeps (s : State) : (State.takeNoticeCmd s).pending = s.pending ∧
    (State.takeNoticeCmd s).sched = s.sched ∧ (State.takeNoticeCmd s).raised = s.raised ∧ (State.takeNoticeCmd
    s).pins = s.pins ∧ (State.takeNoticeCmd s).power = s.power ∧ (State.takeNoticeCmd s).addr = s.addr ∧
    (State.takeNoticeCmd s).streams = s.streams ∧ (State.takeNoticeCmd s).map = s.map ∧ (State.takeNoticeCmd
    s).engine = s.engine ∧ (State.takeNoticeCmd s).ilu = s.ilu ∧ (State.takeNoticeCmd s).xmm = s.xmm ∧
    (State.takeNoticeCmd s).gate = s.gate ∧ (State.takeNoticeCmd s).inbound = s.inbound ∧ (State.takeNoticeCmd
    s).log = s.log ∧ (State.takeNoticeCmd s).settings = s.settings ∧ (State.takeNoticeCmd s).out = s.out := by
  and_intros <;> rfl

@[simp] theorem State.sendCmd_keeps (origin : Origin) (kind : Kind) (node level low high : Byte) (s : State) :
    (State.sendCmd origin kind node level low high s).pending = s.pending ∧ (State.sendCmd origin kind node level
    low high s).pins = s.pins ∧ (State.sendCmd origin kind node level low high s).power = s.power ∧ (State.sendCmd
    origin kind node level low high s).host = s.host ∧ (State.sendCmd origin kind node level low high s).addr =
    s.addr ∧ (State.sendCmd origin kind node level low high s).map = s.map ∧ (State.sendCmd origin kind node level
    low high s).ilu = s.ilu ∧ (State.sendCmd origin kind node level low high s).xmm = s.xmm ∧ (State.sendCmd origin
    kind node level low high s).gate = s.gate ∧ (State.sendCmd origin kind node level low high s).inbound =
    s.inbound ∧ (State.sendCmd origin kind node level low high s).notices = s.notices ∧ (State.sendCmd origin kind
    node level low high s).log = s.log ∧ (State.sendCmd origin kind node level low high s).settings = s.settings ∧
    (State.sendCmd origin kind node level low high s).out = s.out := by
  and_intros <;> first | rfl | (simp only [State.sendCmd]; (repeat' split) <;> simp)

@[simp] theorem State.faultReleaseCmd_keeps (s : State) : (State.faultReleaseCmd s).pending = s.pending ∧
    (State.faultReleaseCmd s).sched = s.sched ∧ (State.faultReleaseCmd s).pins = s.pins ∧ (State.faultReleaseCmd
    s).power = s.power ∧ (State.faultReleaseCmd s).host = s.host ∧ (State.faultReleaseCmd s).addr = s.addr ∧
    (State.faultReleaseCmd s).streams = s.streams ∧ (State.faultReleaseCmd s).map = s.map ∧ (State.faultReleaseCmd
    s).engine = s.engine ∧ (State.faultReleaseCmd s).ilu = s.ilu ∧ (State.faultReleaseCmd s).xmm = s.xmm ∧
    (State.faultReleaseCmd s).gate = s.gate ∧ (State.faultReleaseCmd s).inbound = s.inbound ∧ (State.faultReleaseCmd
    s).notices = s.notices ∧ (State.faultReleaseCmd s).settings = s.settings ∧ (State.faultReleaseCmd s).out = s.out
    := by
  and_intros <;> first | rfl | simp [State.faultReleaseCmd]

@[simp] theorem State.faultClearCmd_keeps (code : Byte) (s : State) : (State.faultClearCmd code s).pending =
    s.pending ∧ (State.faultClearCmd code s).sched = s.sched ∧ (State.faultClearCmd code s).pins = s.pins ∧
    (State.faultClearCmd code s).power = s.power ∧ (State.faultClearCmd code s).host = s.host ∧ (State.faultClearCmd
    code s).addr = s.addr ∧ (State.faultClearCmd code s).streams = s.streams ∧ (State.faultClearCmd code s).map =
    s.map ∧ (State.faultClearCmd code s).engine = s.engine ∧ (State.faultClearCmd code s).ilu = s.ilu ∧
    (State.faultClearCmd code s).xmm = s.xmm ∧ (State.faultClearCmd code s).gate = s.gate ∧ (State.faultClearCmd
    code s).inbound = s.inbound ∧ (State.faultClearCmd code s).notices = s.notices ∧ (State.faultClearCmd code
    s).settings = s.settings ∧ (State.faultClearCmd code s).out = s.out := by
  and_intros <;> first | rfl | (simp only [State.faultClearCmd]; (repeat' split) <;> simp)

@[simp] theorem State.sleepCmd_keeps (s : State) : (State.sleepCmd s).pending = s.pending ∧ (State.sleepCmd s).sched
    = s.sched ∧ (State.sleepCmd s).pins = s.pins ∧ (State.sleepCmd s).host = s.host ∧ (State.sleepCmd s).addr =
    s.addr ∧ (State.sleepCmd s).streams = s.streams ∧ (State.sleepCmd s).map = s.map ∧ (State.sleepCmd s).engine =
    s.engine ∧ (State.sleepCmd s).ilu = s.ilu ∧ (State.sleepCmd s).xmm = s.xmm ∧ (State.sleepCmd s).gate = s.gate ∧
    (State.sleepCmd s).inbound = s.inbound ∧ (State.sleepCmd s).notices = s.notices ∧ (State.sleepCmd s).log = s.log
    ∧ (State.sleepCmd s).settings = s.settings ∧ (State.sleepCmd s).out = s.out := by
  and_intros <;> first | rfl | (simp only [State.sleepCmd]; (repeat' split) <;> simp)

@[simp] theorem State.execute_keeps (c : Command) (ps : List Byte) (s : State) : (State.execute c ps s).pending =
    s.pending ∧ (State.execute c ps s).pins = s.pins ∧ (State.execute c ps s).out = s.out := by
  and_intros <;> first | rfl | (simp only [State.execute]; (repeat' split) <;> simp)

@[simp] theorem State.clearLatch_keeps (s : State) : (State.clearLatch s).pending = s.pending ∧ (State.clearLatch
    s).sched = s.sched ∧ (State.clearLatch s).raised = s.raised ∧ (State.clearLatch s).pins = s.pins ∧
    (State.clearLatch s).power = s.power ∧ (State.clearLatch s).addr = s.addr ∧ (State.clearLatch s).streams =
    s.streams ∧ (State.clearLatch s).map = s.map ∧ (State.clearLatch s).engine = s.engine ∧ (State.clearLatch s).ilu
    = s.ilu ∧ (State.clearLatch s).xmm = s.xmm ∧ (State.clearLatch s).gate = s.gate ∧ (State.clearLatch s).inbound =
    s.inbound ∧ (State.clearLatch s).notices = s.notices ∧ (State.clearLatch s).log = s.log ∧ (State.clearLatch
    s).settings = s.settings ∧ (State.clearLatch s).out = s.out := by
  and_intros <;> rfl

@[simp] theorem State.endStream_keeps (s : State) : (State.endStream s).pending = s.pending ∧ (State.endStream
    s).sched = s.sched ∧ (State.endStream s).raised = s.raised ∧ (State.endStream s).pins = s.pins ∧
    (State.endStream s).power = s.power ∧ (State.endStream s).addr = s.addr ∧ (State.endStream s).map = s.map ∧
    (State.endStream s).engine = s.engine ∧ (State.endStream s).ilu = s.ilu ∧ (State.endStream s).xmm = s.xmm ∧
    (State.endStream s).gate = s.gate ∧ (State.endStream s).inbound = s.inbound ∧ (State.endStream s).notices =
    s.notices ∧ (State.endStream s).log = s.log ∧ (State.endStream s).settings = s.settings ∧ (State.endStream
    s).out = s.out := by
  and_intros <;> first | rfl | (simp only [State.endStream]; (repeat' split) <;> simp)

@[simp] theorem Collected.keepsPage_keeps (c : Collected) (s : State) : (Collected.keepsPage c s).pending =
    s.pending ∧ (Collected.keepsPage c s).sched = s.sched ∧ (Collected.keepsPage c s).raised = s.raised ∧
    (Collected.keepsPage c s).pins = s.pins ∧ (Collected.keepsPage c s).power = s.power ∧ (Collected.keepsPage c
    s).host = s.host ∧ (Collected.keepsPage c s).streams = s.streams ∧ (Collected.keepsPage c s).map = s.map ∧
    (Collected.keepsPage c s).engine = s.engine ∧ (Collected.keepsPage c s).ilu = s.ilu ∧ (Collected.keepsPage c
    s).xmm = s.xmm ∧ (Collected.keepsPage c s).gate = s.gate ∧ (Collected.keepsPage c s).inbound = s.inbound ∧
    (Collected.keepsPage c s).notices = s.notices ∧ (Collected.keepsPage c s).log = s.log ∧ (Collected.keepsPage c
    s).settings = s.settings ∧ (Collected.keepsPage c s).out = s.out := by
  and_intros <;> first | rfl | (simp only [Collected.keepsPage]; (repeat' split) <;> simp)

@[simp] theorem State.dropCollection_keeps (s : State) : (State.dropCollection s).pending = s.pending ∧
    (State.dropCollection s).sched = s.sched ∧ (State.dropCollection s).raised = s.raised ∧ (State.dropCollection
    s).pins = s.pins ∧ (State.dropCollection s).power = s.power ∧ (State.dropCollection s).addr = s.addr ∧
    (State.dropCollection s).streams = s.streams ∧ (State.dropCollection s).map = s.map ∧ (State.dropCollection
    s).engine = s.engine ∧ (State.dropCollection s).ilu = s.ilu ∧ (State.dropCollection s).xmm = s.xmm ∧
    (State.dropCollection s).gate = s.gate ∧ (State.dropCollection s).inbound = s.inbound ∧ (State.dropCollection
    s).notices = s.notices ∧ (State.dropCollection s).log = s.log ∧ (State.dropCollection s).settings = s.settings ∧
    (State.dropCollection s).out = s.out := by
  and_intros <;> rfl

@[simp] theorem State.cancelCollection_keeps (s : State) : (State.cancelCollection s).pending = s.pending ∧
    (State.cancelCollection s).sched = s.sched ∧ (State.cancelCollection s).pins = s.pins ∧ (State.cancelCollection
    s).power = s.power ∧ (State.cancelCollection s).streams = s.streams ∧ (State.cancelCollection s).map = s.map ∧
    (State.cancelCollection s).engine = s.engine ∧ (State.cancelCollection s).ilu = s.ilu ∧ (State.cancelCollection
    s).xmm = s.xmm ∧ (State.cancelCollection s).gate = s.gate ∧ (State.cancelCollection s).inbound = s.inbound ∧
    (State.cancelCollection s).notices = s.notices ∧ (State.cancelCollection s).log = s.log ∧
    (State.cancelCollection s).settings = s.settings ∧ (State.cancelCollection s).out = s.out := by
  and_intros <;> first | rfl | (simp only [State.cancelCollection]; (repeat' split) <;> simp)

@[simp] theorem State.commandPrelude_keeps (skipSeal : Bool) (s : State) : (State.commandPrelude skipSeal s).pending
    = s.pending ∧ (State.commandPrelude skipSeal s).pins = s.pins ∧ (State.commandPrelude skipSeal s).power =
    s.power ∧ (State.commandPrelude skipSeal s).ilu = s.ilu ∧ (State.commandPrelude skipSeal s).xmm = s.xmm ∧
    (State.commandPrelude skipSeal s).gate = s.gate ∧ (State.commandPrelude skipSeal s).inbound = s.inbound ∧
    (State.commandPrelude skipSeal s).notices = s.notices ∧ (State.commandPrelude skipSeal s).log = s.log ∧
    (State.commandPrelude skipSeal s).settings = s.settings ∧ (State.commandPrelude skipSeal s).out = s.out := by
  and_intros <;> first | rfl | (simp only [State.commandPrelude]; (repeat' split) <;> simp)

@[simp] theorem State.collect_keeps (c : Command) (owed : Nat) (s : State) : (State.collect c owed s).pending =
    s.pending ∧ (State.collect c owed s).sched = s.sched ∧ (State.collect c owed s).raised = s.raised ∧
    (State.collect c owed s).pins = s.pins ∧ (State.collect c owed s).power = s.power ∧ (State.collect c owed
    s).addr = s.addr ∧ (State.collect c owed s).streams = s.streams ∧ (State.collect c owed s).map = s.map ∧
    (State.collect c owed s).engine = s.engine ∧ (State.collect c owed s).ilu = s.ilu ∧ (State.collect c owed s).xmm
    = s.xmm ∧ (State.collect c owed s).gate = s.gate ∧ (State.collect c owed s).inbound = s.inbound ∧ (State.collect
    c owed s).notices = s.notices ∧ (State.collect c owed s).log = s.log ∧ (State.collect c owed s).settings =
    s.settings ∧ (State.collect c owed s).out = s.out := by
  and_intros <;> rfl

@[simp] theorem State.decode_keeps (c : Option Command) (s : State) : (State.decode c s).pending = s.pending ∧
    (State.decode c s).pins = s.pins ∧ (State.decode c s).out = s.out := by
  and_intros <;> first | rfl | (simp only [State.decode]; (repeat' split) <;> simp)

@[simp] theorem State.setHalf_keeps (b : Bool) (s : State) : (State.setHalf b s).pending = s.pending ∧
    (State.setHalf b s).sched = s.sched ∧ (State.setHalf b s).raised = s.raised ∧ (State.setHalf b s).pins = s.pins
    ∧ (State.setHalf b s).power = s.power ∧ (State.setHalf b s).addr = s.addr ∧ (State.setHalf b s).streams =
    s.streams ∧ (State.setHalf b s).map = s.map ∧ (State.setHalf b s).engine = s.engine ∧ (State.setHalf b s).ilu =
    s.ilu ∧ (State.setHalf b s).xmm = s.xmm ∧ (State.setHalf b s).gate = s.gate ∧ (State.setHalf b s).inbound =
    s.inbound ∧ (State.setHalf b s).notices = s.notices ∧ (State.setHalf b s).log = s.log ∧ (State.setHalf b
    s).settings = s.settings ∧ (State.setHalf b s).out = s.out := by
  and_intros <;> rfl

@[simp] theorem State.restartByte_keeps (s : State) : (State.restartByte s).pending = s.pending ∧ (State.restartByte
    s).sched = s.sched ∧ (State.restartByte s).raised = s.raised ∧ (State.restartByte s).pins = s.pins ∧
    (State.restartByte s).map = s.map ∧ (State.restartByte s).gate = s.gate ∧ (State.restartByte s).log = s.log ∧
    (State.restartByte s).settings = s.settings ∧ (State.restartByte s).out = s.out := by
  and_intros <;> first | rfl | (simp only [State.restartByte]; (repeat' split) <;> simp)

@[simp] theorem State.commandByte_keeps (b : Byte) (s : State) : (State.commandByte b s).pending = s.pending ∧
    (State.commandByte b s).pins = s.pins ∧ (State.commandByte b s).out = s.out := by
  and_intros <;> first | rfl | (simp only [State.commandByte]; (repeat' split) <;> simp)

@[simp] theorem State.parameter_keeps (b : Byte) (s : State) : (State.parameter b s).pending = s.pending ∧
    (State.parameter b s).pins = s.pins ∧ (State.parameter b s).out = s.out := by
  and_intros <;> first | rfl | (simp only [State.parameter]; (repeat' split) <;> simp)

@[simp] theorem State.overrun_keeps (s : State) : (State.overrun s).pending = s.pending ∧ (State.overrun s).sched =
    s.sched ∧ (State.overrun s).pins = s.pins ∧ (State.overrun s).power = s.power ∧ (State.overrun s).addr = s.addr
    ∧ (State.overrun s).streams = s.streams ∧ (State.overrun s).map = s.map ∧ (State.overrun s).engine = s.engine ∧
    (State.overrun s).ilu = s.ilu ∧ (State.overrun s).xmm = s.xmm ∧ (State.overrun s).gate = s.gate ∧ (State.overrun
    s).inbound = s.inbound ∧ (State.overrun s).notices = s.notices ∧ (State.overrun s).log = s.log ∧ (State.overrun
    s).settings = s.settings ∧ (State.overrun s).out = s.out := by
  and_intros <;> rfl

@[simp] theorem State.writeCommand_keeps (b : Byte) (s : State) : (State.writeCommand b s).pending = s.pending ∧
    (State.writeCommand b s).pins = s.pins ∧ (State.writeCommand b s).out = s.out := by
  and_intros <;> first | rfl | (simp only [State.writeCommand]; (repeat' split) <;> simp)

@[simp] theorem State.writeData_keeps (b : Byte) (s : State) : (State.writeData b s).pending = s.pending ∧
    (State.writeData b s).pins = s.pins ∧ (State.writeData b s).power = s.power ∧ (State.writeData b s).ilu = s.ilu
    ∧ (State.writeData b s).xmm = s.xmm ∧ (State.writeData b s).gate = s.gate ∧ (State.writeData b s).inbound =
    s.inbound ∧ (State.writeData b s).notices = s.notices ∧ (State.writeData b s).log = s.log ∧ (State.writeData b
    s).settings = s.settings ∧ (State.writeData b s).out = s.out := by
  and_intros <;> first | rfl | (simp only [State.writeData]; (repeat' split) <;> simp)

@[simp] theorem State.serveDataRead_keeps (s : State) : (State.serveDataRead s).1.pending = s.pending ∧
    (State.serveDataRead s).1.pins = s.pins ∧ (State.serveDataRead s).1.power = s.power ∧ (State.serveDataRead
    s).1.ilu = s.ilu ∧ (State.serveDataRead s).1.xmm = s.xmm ∧ (State.serveDataRead s).1.gate = s.gate ∧
    (State.serveDataRead s).1.inbound = s.inbound ∧ (State.serveDataRead s).1.notices = s.notices ∧
    (State.serveDataRead s).1.log = s.log ∧ (State.serveDataRead s).1.settings = s.settings ∧ (State.serveDataRead
    s).1.out = s.out := by
  and_intros <;> first | rfl | (simp only [State.serveDataRead]; (repeat' split) <;> simp)

@[simp] theorem State.readData_keeps (s : State) : (State.readData s).pending = s.pending ∧ (State.readData s).pins
    = s.pins ∧ (State.readData s).power = s.power ∧ (State.readData s).ilu = s.ilu ∧ (State.readData s).xmm = s.xmm
    ∧ (State.readData s).gate = s.gate ∧ (State.readData s).inbound = s.inbound ∧ (State.readData s).notices =
    s.notices ∧ (State.readData s).log = s.log ∧ (State.readData s).settings = s.settings := by
  and_intros <;> first | rfl | (simp only [State.readData]; (repeat' split) <;> simp)

@[simp] theorem State.releaseSelect_keeps (s : State) : (State.releaseSelect s).pending = s.pending ∧
    (State.releaseSelect s).power = s.power ∧ (State.releaseSelect s).addr = s.addr ∧ (State.releaseSelect s).map =
    s.map ∧ (State.releaseSelect s).gate = s.gate ∧ (State.releaseSelect s).notices = s.notices ∧
    (State.releaseSelect s).settings = s.settings ∧ (State.releaseSelect s).out = s.out := by
  and_intros <;> first | rfl | simp [State.releaseSelect]

@[simp] theorem State.expiryEvent_keeps (t : TimerId) (s : State) : (State.expiryEvent t s).pending = s.pending ∧
    (State.expiryEvent t s).pins = s.pins ∧ (State.expiryEvent t s).power = s.power ∧ (State.expiryEvent t s).addr =
    s.addr ∧ (State.expiryEvent t s).map = s.map ∧ (State.expiryEvent t s).gate = s.gate ∧ (State.expiryEvent t
    s).notices = s.notices ∧ (State.expiryEvent t s).settings = s.settings ∧ (State.expiryEvent t s).out = s.out :=
    by
  and_intros <;> first | rfl | (simp only [State.expiryEvent]; (repeat' split) <;> simp)

@[simp] theorem State.passEvent_keeps (wanted : PassAction → Bool) (s : State) : (State.passEvent wanted s).pending
    = s.pending ∧ (State.passEvent wanted s).pins = s.pins ∧ (State.passEvent wanted s).power = s.power ∧
    (State.passEvent wanted s).addr = s.addr ∧ (State.passEvent wanted s).map = s.map ∧ (State.passEvent wanted
    s).gate = s.gate ∧ (State.passEvent wanted s).notices = s.notices ∧ (State.passEvent wanted s).settings =
    s.settings ∧ (State.passEvent wanted s).out = s.out := by
  and_intros <;> first | rfl | (simp only [State.passEvent]; (repeat' split) <;> simp)

end Sys2Proof.Machine
end

