-- ==== Sys2Proof/Laws/Phases.lean ====
section
/-! SUPPORT. Processing steps: when an event joins the step in progress, and what entering a phase leaves alone. -/

namespace Sys2Proof.Machine

/-- Whether the bridge runs is a matter of its power state alone. -/
theorem State.running_of_power (s t : State) (h : t.power = s.power) : t.running = s.running := by
  simp [State.running, h]

/-- Entering a phase does not change whether the bridge runs. -/
@[simp] theorem State.enter_running (p : Phase) (s : State) : (s.enter p).running = s.running :=
  State.running_of_power _ _ (by simp)

/-- Logging does not change whether the bridge runs. -/
@[simp] theorem State.logBatch_running (s : State) : s.logBatch.running = s.running :=
  State.running_of_power _ _ (by simp)

/-- In reset and initialization there are no steps. -/
theorem State.enter_of_not_running (p : Phase) (s : State) (h : s.running = false) : s.enter p = s := by
  simp [State.enter, h]

/-- An event of the phase the step is in joins it without more ado. -/
theorem State.enter_same (p : Phase) (s : State) (h : s.sched.phase = p) (hp : p.repeats = true) : s.enter p = s := by
  subst h
  cases hr : s.running
  · exact State.enter_of_not_running _ _ hr
  · have hb : s.sched.phase ≠ .between := by intro hb; rw [hb] at hp; simp [Phase.repeats] at hp
    have hj : s.joins s.sched.phase = true := by simp [State.joins, hb, hp]
    simp [State.enter, hr, hb, hj, State.advance]

/-- Between steps, ending the step in progress does nothing. -/
theorem State.enter_between_of_between (s : State) (h : s.sched.phase = .between) : s.enter .between = s := by
  simp [State.enter, State.closeStep, h]

/-- Between steps, a host cycle or a packet opens a step at its phase. -/
theorem State.enter_from_between (p : Phase) (s : State) (hr : s.running = true) (h : s.sched.phase = .between)
    (hp : p = .host ∨ p = .packets) : s.enter p = s.setPhase p := by
  rcases hp with rfl | rfl <;> simp [State.enter, hr, State.joins, h, State.closeStep, State.openStep]

/-- Between steps, a timer event opens a step at the next tick boundary. -/
theorem State.enter_timers_from_between (s : State) (hr : s.running = true) (h : s.sched.phase = .between) :
    s.enter .timers = s.startTimers := by
  simp [State.enter, hr, State.joins, h, State.closeStep, State.openStep]

/-- Between steps, an end-of-step event opens a step at its pass. -/
theorem State.enter_pass_from_between (s : State) (hr : s.running = true) (h : s.sched.phase = .between) :
    s.enter .pass = s.startPass := by
  simp [State.enter, hr, State.joins, h, State.closeStep, State.openStep]

/-- The phase a step is in when an event of phase `p` is handled. -/
theorem State.enter_phase (p : Phase) (s : State) (hr : s.running = true) : (s.enter p).sched.phase = p := by
  have hset : ∀ t : State, t.leaveTimers.startPass.sched.phase = .pass := fun t => by simp [State.startPass]
  have hopen : ∀ t : State, (t.openStep p).sched.phase = p := by
    intro t; cases p <;> simp [State.openStep, State.startTimers, State.startPass]
  have hclose : s.closeStep.sched.phase = .between := by
    unfold State.closeStep; split
    · assumption
    · simp
  unfold State.enter
  rw [hr]
  simp only [Bool.not_true, Bool.false_eq_true, if_false]
  split
  · rename_i h; rw [h]; exact hclose
  · split
    · unfold State.advance
      split
      · assumption
      · cases p <;> simp [State.startTimers, State.startPass]
    · exact hopen _

/-- The drain test changes only the drain-pending flag and the IDLE latch of the Host Port. -/
theorem State.drainTest_host (s : State) :
    s.drainTest.host = { s.host with drainPending := s.drainTest.host.drainPending
                                     idleLatch := s.drainTest.host.idleLatch } := by
  unfold State.drainTest; split <;> rfl

/-- Entering a phase changes only the drain-pending flag and the IDLE latch of the Host Port. -/
theorem State.enter_host (p : Phase) (s : State) :
    (s.enter p).host = { s.host with drainPending := (s.enter p).host.drainPending
                                     idleLatch := (s.enter p).host.idleLatch } := by
  have hclose : s.closeStep.host = { s.host with drainPending := s.closeStep.host.drainPending
                                                 idleLatch := s.closeStep.host.idleLatch } := by
    unfold State.closeStep; split
    · rfl
    · simp only [State.endStep_keeps, State.logBatch_keeps]
      rw [State.drainTest_host]; simp
  unfold State.enter
  split
  · rfl
  · split
    · exact hclose
    · split
      · simp
      · simp only [State.openStep_keeps]; exact hclose

/-- Logging a batch leaves no fault unlogged. -/
@[simp] theorem State.logBatch_raised (s : State) : s.logBatch.raised = [] := by
  unfold State.logBatch; split <;> rfl

/-- The end of the timer phase leaves no fault unlogged. -/
theorem State.finishTimers_raised (s : State) : s.finishTimers.raised = [] := by simp [State.finishTimers]

/-- The end of a step leaves no fault unlogged. -/
theorem State.closeStep_raised (s : State) (h : s.sched.phase ≠ .between) : s.closeStep.raised = [] := by
  simp [State.closeStep, h]

end Sys2Proof.Machine
end

