-- ==== Sys2Proof/Laws/HostPort.lean ====
section
/-! SUPPORT. Host cycles: the prelude of a ready bridge, and what a complete command comes to. -/

namespace Sys2Proof.Machine

/-- The command byte of a command decodes to it. -/
@[simp] theorem decode_byte (c : Command) : decodeCommandByte c.byte = some c := by cases c <;> rfl

/-- A state that is ready for a command runs. -/
theorem State.readyForCommand.runs {e : State} (h : e.readyForCommand) : e.running = true := h.1

/-- The prelude of a ready bridge leaves nothing but what `started` says (R5). -/
theorem State.commandPrelude_ready (e : State) (skipSeal : Bool) (h : e.readyForCommand) :
    ((e.select true).setHalf false).commandPrelude skipSeal = e.started := by
  obtain ⟨-, -, -, hp, hc, hd, -⟩ := h
  have hs : ∀ t : State, t.streams.pack = none → t.seal = t := by intro t ht; simp [State.seal, ht]
  have h1 : (if skipSeal then ((e.select true).setHalf false).clearLatch
      else ((e.select true).setHalf false).clearLatch.seal) = ((e.select true).setHalf false).clearLatch := by
    cases skipSeal
    · simp only [Bool.false_eq_true, if_false]; exact hs _ (by simpa using hp)
    · simp
  unfold State.commandPrelude
  rw [h1]
  have hcol : ∀ t : State, t.host.collected = none → t.cancelCollection = t := by
    intro t ht; simp [State.cancelCollection, ht]
  rw [hcol]
  · cases hdec : e.host.decoder <;>
      simp [State.endStream, State.started, State.setDecoder, State.invalidate, State.clearLatch, State.setHalf,
        State.setHost, State.select, hdec]
    simp_all
  · cases hdec : e.host.decoder <;>
      simp [State.endStream, State.setDecoder, State.invalidate, State.clearLatch, State.setHalf, State.setHost,
        State.select, hdec, hc]

/-- A command byte of a ready bridge, RESTART apart, starts and is decoded (R1, R5). -/
theorem State.writeCommand_ready (e : State) (c : Command) (hc : c ≠ .restart) (h : e.readyForCommand) :
    (e.select true).writeCommand c.byte = e.started.decode (some c) := by
  obtain ⟨hr, ha, hs, hp, hcol, hd, hraise⟩ := id h
  have hrun : (e.select true).running = true := by rw [State.running_of_power e _ (by simp)]; exact hr
  have hne : (some c = some Command.restart) ↔ False := by simp [hc]
  simp only [State.writeCommand, hrun, Bool.not_true, Bool.false_eq_true, if_false, State.select_keeps, hs,
    Option.isSome_none, HostPort.collecting, hcol, Option.any_none]
  simp only [State.commandByte, State.select_keeps, ha, Bool.false_and, Bool.false_eq_true, if_false, decode_byte, hne]
  rw [State.commandPrelude_ready e _ h]

/-- A command without parameters executes at once (R4, R5). -/
theorem State.hostWrite_ready (s : State) (c : Command) (hc : c ≠ .restart) (h : (s.enter .host).readyForCommand)
    (ho : c.owed (s.enter .host).checkSupply = 0) :
    s.hostWrite c.byte = ((s.enter .host).started.execute c []).logBatch := by
  have hcs : (s.enter .host).started.checkSupply = (s.enter .host).checkSupply := rfl
  simp [State.hostWrite, State.hostCycle, State.writeCommand_ready _ c hc h, State.decode, hcs, ho]

/-- A command byte at an awake bridge with BUSY clear and no collection, RESTART apart: its prelude, then its decoding
(R1, R5). -/
theorem State.hostWrite_awake (s e : State) (c : Command) (hc : c ≠ .restart) (he : e = s.atHost) (hr : e.running = true)
    (ha : e.power.asleep = false) (hs : e.streams.staging = none) (hcol : e.host.collected = none) :
    s.hostWrite c.byte =
      ((((e.select true).setHalf false).commandPrelude (some c == some .abort)).decode (some c)).logBatch := by
  subst he
  have hr' : (s.atHost.select true).running = true := hr
  have hne : (some c = some Command.restart) ↔ False := by simp [hc]
  show (((s.atHost).select true).writeCommand c.byte).logBatch = _
  simp [State.writeCommand, hr', hs, HostPort.collecting, hcol, State.commandByte, ha, hne]

/-- What the bridge is between the bytes of one command: in the host phase of a step, with BUSY clear, the decoder IDLE
apart from the collection, and nothing unlogged. -/
structure State.Settled (e : State) : Prop where
  runs : e.running = true
  inHost : e.sched.phase = .host
  notBusy : e.streams.staging = none
  noHalf : e.host.halfSeen = false
  selected : e.pins.selected = true
  noFault : e.raised = []
  idle : e.host.decoder = .idle
  noCollection : e.host.collected = none

/-- The prelude of a ready bridge leaves it so. -/
theorem State.started_settled (s : State) (h : (s.enter .host).readyForCommand) : (s.enter .host).started.Settled := by
  obtain ⟨hr, -, hs, -, hcol, -, hraise⟩ := id h
  have hrun : s.running = true := by simpa using hr
  exact
    { runs := hr, inHost := State.enter_phase .host s hrun
      notBusy := by simp only [State.started]; split <;> simpa using hs
      noHalf := rfl, selected := rfl, noFault := hraise, idle := rfl, noCollection := hcol }

/-- A batch without faults logs nothing. -/
theorem State.logBatch_nothing (s : State) (h : s.raised = []) : s.logBatch = s := by
  cases s; simp_all [State.logBatch, orderBatch]

/-- A collection in progress: the state with a command byte and some of its parameters received. -/
def State.collecting (e : State) (c : Command) (owed : Nat) (ps : List Byte) : State :=
  { e with host := { e.host with decoder := .collecting
                                 collected := some { command := c, owed := owed, params := ps, lapsed := false } } }

/-- A host cycle in the host phase is handled at once. -/
theorem State.hostCycle_collecting (e : State) (f : State → State) (c : Command) (n : Nat) (ps : List Byte)
    (h : e.Settled) : (e.collecting c n ps).hostCycle f = (f (e.collecting c n ps)).logBatch := by
  have henter : (e.collecting c n ps).enter .host = e.collecting c n ps :=
    State.enter_same _ _ h.inHost rfl
  have hsel : (e.collecting c n ps).select true = e.collecting c n ps := by
    have := h.selected
    cases e; rename_i pins _ _ _ _ _ _ _ _ _ _ _ _ _ _
    cases pins; simp_all [State.collecting, State.select]
  simp [State.hostCycle, henter, hsel]

/-- What a parameter byte is handled as. -/
theorem State.writeCommand_collecting (e : State) (c : Command) (n : Nat) (ps : List Byte) (b : Byte) (h : e.Settled) :
    (e.collecting c n ps).writeCommand b = (e.collecting c n ps).parameter b := by
  have hrun : (e.collecting c n ps).running = true := h.runs
  have hs : (e.collecting c n ps).streams.staging = none := h.notBusy
  have hhalf : (e.collecting c n ps).setHalf false = e.collecting c n ps := by
    have := h.noHalf
    cases e; rename_i host _ _ _ _ _ _ _ _ _ _ _ _
    cases host; simp_all [State.collecting, State.setHalf, State.setHost]
  have hopen : (e.collecting c n ps).host.collecting = true := rfl
  simp [State.writeCommand, hrun, hs, hopen, hhalf]

/-- A parameter byte that is not the last is appended, and nothing else happens (R7). -/
theorem State.hostWrite_parameter (e : State) (c : Command) (n : Nat) (ps : List Byte) (b : Byte) (h : e.Settled) :
    (e.collecting c (n + 2) ps).hostWrite b = e.collecting c (n + 1) (ps ++ [b]) := by
  rw [State.hostWrite, State.hostCycle_collecting e _ c _ ps h, State.writeCommand_collecting e c _ ps b h]
  have hp : (e.collecting c (n + 2) ps).parameter b = e.collecting c (n + 1) (ps ++ [b]) := by
    simp [State.parameter, State.collecting, State.setHost, Collected.take]
  rw [hp]
  exact State.logBatch_nothing _ h.noFault

/-- The last parameter byte executes the command (R7). -/
theorem State.hostWrite_last (e : State) (c : Command) (ps : List Byte) (b : Byte) (h : e.Settled) :
    (e.collecting c 1 ps).hostWrite b = (e.execute c (ps ++ [b])).logBatch := by
  rw [State.hostWrite, State.hostCycle_collecting e _ c _ ps h, State.writeCommand_collecting e c _ ps b h]
  have hd : (e.collecting c 1 ps).dropCollection = e := by
    have h1 := h.idle; have h2 := h.noCollection
    cases e; rename_i host _ _ _ _ _ _ _ _ _ _ _ _
    cases host; simp_all [State.collecting, State.dropCollection, State.setHost]
  have hp : (e.collecting c 1 ps).parameter b =
      (e.collecting c 1 ps).dropCollection.execute c (ps ++ [b]) := rfl
  rw [hp, hd]

/-- The parameter bytes of a collection, up to the last (R7). -/
theorem State.hostWrites_parameters (e : State) (c : Command) (ps qs : List Byte) (h : e.Settled) (hq : qs ≠ []) :
    (e.collecting c qs.length ps).hostWrites qs = (e.execute c (ps ++ qs)).logBatch := by
  induction qs generalizing ps with
  | nil => exact absurd rfl hq
  | cons b rest ih =>
    cases rest with
    | nil => simpa [State.hostWrites] using State.hostWrite_last e c ps b h
    | cons d rest =>
      have hstep := State.hostWrite_parameter e c rest.length ps b h
      have hrest := ih (ps ++ [b]) (by simp)
      simp only [State.hostWrites, List.foldl_cons, List.length_cons] at hrest ⊢
      rw [hstep, hrest]; simp

/-- A complete command with parameters, written to a ready bridge, executes with them (R4, R5, R7). -/
theorem State.hostWrites_ready (s : State) (c : Command) (ps : List Byte) (hc : c ≠ .restart)
    (h : (s.enter .host).readyForCommand) (ho : c.owed (s.enter .host).checkSupply = ps.length) (hps : ps ≠ []) :
    s.hostWrites (c.byte :: ps) = ((s.enter .host).started.execute c ps).logBatch := by
  have hset := State.started_settled s h
  have hfirst : s.hostWrite c.byte = (s.enter .host).started.collecting c ps.length [] := by
    have hcs : (s.enter .host).started.checkSupply = (s.enter .host).checkSupply := rfl
    have hne : ps.length ≠ 0 := by simpa using hps
    simp only [State.hostWrite, State.hostCycle, State.writeCommand_ready _ c hc h, State.decode, hcs, ho, if_neg hne]
    exact State.logBatch_nothing _ hset.noFault
  have := State.hostWrites_parameters (s.enter .host).started c [] ps hset hps
  simpa [State.hostWrites, hfirst] using this

/-- A batch of one fault logs that fault (R140, R141). -/
theorem State.logBatch_raise (s : State) (f : FaultRecord) (hr : s.running = true) (h : s.raised = []) :
    (s.raise f).logBatch = s.logged f := by
  have hr' : (s.raise f).running = true := hr
  have hf : (s.raise f).raised = [f] := by simp [h]
  rw [State.logBatch, if_pos hr', hf]
  cases s; simp_all [State.logged, State.raise, orderBatch, insertFault]

end Sys2Proof.Machine
end

