-- ==== Sys2Proof/Laws/Events.lean ====
section
/-! SUPPORT. What a row comes to once the step has reached its phase: received packets, expiries and actions of the pass;
and what a batch of one fault logs. -/

namespace Sys2Proof.Machine

/-- A received packet is handled in its phase and its faults are logged (R141, R164). -/
theorem State.packetEvent_at (s e : State) (f : State → State) (h : e = s.enter .packets) :
    s.packetEvent f = (f e).logBatch := by subst h; rfl

/-- A host cycle is handled in its phase and its faults are logged (R141, R164). -/
theorem State.hostCycle_at (s e : State) (f : State → State) (h : e = s.atHost) :
    s.hostCycle f = (f (e.select true)).logBatch := by subst h; rfl

/-- An expiry row whose expiry is the next one due handles it (R164). -/
theorem State.expiryEvent_next (s e : State) (t : TimerId) (he : e = s.enter .timers) (hr : e.running = true)
    (hn : e.nextExpiry = some t) : s.expiryEvent t = e.expire t := by
  subst he
  unfold State.expiryEvent
  rw [if_pos ⟨by simpa using hr, hn⟩]

/-- A row of the pass whose action is the next one makes it (R116). -/
theorem State.passEvent_next (s e : State) (w : PassAction → Bool) (a : PassAction) (he : e = s.enter .pass)
    (hr : e.running = true) (hn : e.passNext = some a) (hw : w a = true) : s.passEvent w = e.passAct a := by
  subst he
  have hs : s.running = true := by simpa using hr
  unfold State.passEvent
  rw [if_pos hs, hn, Option.filter_some, if_pos hw]

/-- A batch of one fault logs it, in a state with the power state of one that runs (R140, R141). -/
theorem State.logBatch_one (e s : State) (f : FaultRecord) (h : s.raised = [f]) (hp : s.power = e.power)
    (hr : e.running = true) : s.logBatch = State.logged f { s with raised := [] } := by
  have hs : s.running = true := by rw [State.running_of_power e s hp]; exact hr
  rw [State.logBatch, if_pos hs, h]; rfl

/-- A command without parameters at a ready bridge (R5). -/
theorem State.command_ready (s e : State) (c : Command) (hc : c ≠ .restart) (he : e = s.atHost)
    (h : e.readyForCommand) (ho : c.owed e.checkSupply = 0) :
    s.hostWrite c.byte = (e.started.execute c []).logBatch := by
  subst he; exact State.hostWrite_ready s c hc h ho

/-- A command with its parameters at a ready bridge (R4, R7). -/
theorem State.commands_ready (s e : State) (c : Command) (ps : List Byte) (hc : c ≠ .restart) (he : e = s.atHost)
    (h : e.readyForCommand) (ho : c.owed e.checkSupply = ps.length) (hps : ps ≠ []) :
    s.hostWrites (c.byte :: ps) = (e.started.execute c ps).logBatch := by
  subst he; exact State.hostWrites_ready s c ps hc h ho hps

/-- A beat that passes its check and is for this node goes to the scoreboard and is answered TAKEN (R70). -/
theorem State.receiveBeat_passes (e : State) (p : BeatPacket) (hr : e.running = true) (hs : e.pins.spanReset = false)
    (h1 : p.valueOk = true) (h2 : p.beat.number ≤ 3) (h3 : p.beat.requester = e.power.node) :
    e.receiveBeat p = (e.scoreBeat p.beat).reply (some .taken) := by
  simp [State.receiveBeat, hr, hs, h3, State.decideBeat, BeatPacket.passes, BeatPacket.wellFormed, h1, h2]

end Sys2Proof.Machine
end

