-- ==== Sys2Proof/Laws/Memory.lean ====
section
/-! SUPPORT. Exchange Memory: a write is read back and touches no other byte, and every operation keeps the canonical form
and the bounds. -/

namespace Sys2Proof.Machine

/-- A byte below every listed address reads as unwritten. -/
theorem Memory.read_below (m : Memory) (low a : Nat) (h : Memory.above low m = true) (ha : a ≤ low) :
    m.read a = unwritten := by
  induction m with
  | nil => rfl
  | cons c rest ih =>
    obtain ⟨k, w⟩ := c
    simp only [Memory.above, List.all_cons, Bool.and_eq_true, decide_eq_true_eq] at h
    simp only [Memory.read]
    rw [if_neg (by omega)]
    exact ih h.2

/-- A byte reads as the value last written to it, and as before elsewhere. -/
theorem Memory.read_write (m : Memory) (a b : Nat) (v : Byte) (h : m.wf = true) :
    (m.write a v).read b = if b = a then v else m.read b := by
  induction m with
  | nil =>
    simp only [Memory.write]
    split
    · simp_all [Memory.read]
    · simp [Memory.read, eq_comm]
  | cons c rest ih =>
    obtain ⟨k, w⟩ := c
    simp only [Memory.wf, Bool.and_eq_true, bne_iff_ne, ne_eq] at h
    obtain ⟨⟨hw, habove⟩, hrest⟩ := h
    by_cases hba : b = a
    · subst hba
      rw [if_pos rfl]
      by_cases h1 : b < k
      · have hk : k ≠ b := by omega
        have hb := Memory.read_below rest k b habove (by omega)
        by_cases hv : v = unwritten
        · simp [Memory.write, h1, hv, Memory.read, hk, hb]
        · simp [Memory.write, h1, hv, Memory.read]
      · by_cases h2 : b = k
        · subst h2
          have hb := Memory.read_below rest b b habove (le_refl _)
          by_cases hv : v = unwritten
          · simp [Memory.write, hv, hb]
          · simp [Memory.write, hv, Memory.read]
        · have hk : k ≠ b := fun h => h2 h.symm
          simp [Memory.write, h1, h2, Memory.read, hk, ih hrest]
    · have hab : a ≠ b := fun h => hba h.symm
      rw [if_neg hba]
      by_cases h1 : a < k
      · by_cases hv : v = unwritten
        · simp [Memory.write, h1, hv]
        · simp [Memory.write, h1, hv, Memory.read, hab]
      · by_cases h2 : a = k
        · subst h2
          by_cases hv : v = unwritten
          · simp [Memory.write, hv, Memory.read, hab]
          · simp [Memory.write, hv, Memory.read, hab]
        · simp only [Memory.write, if_neg h1, if_neg h2, Memory.read]
          split
          · rfl
          · rw [ih hrest, if_neg hba]

/-- A write lists no entry that was not listed, but that of its own byte. -/
theorem Memory.mem_write (m : Memory) (a : Nat) (v : Byte) (c : Host.Cell) (h : c ∈ m.write a v) :
    c ∈ m ∨ c = (a, v) := by
  induction m with
  | nil => simp only [Memory.write] at h; split at h <;> simp_all
  | cons d rest ih =>
    obtain ⟨k, w⟩ := d
    simp only [Memory.write] at h
    split at h
    · split at h <;> (simp_all; try tauto)
    · split at h
      · split at h <;> (simp_all; try tauto)
      · simp only [List.mem_cons] at h ⊢
        rcases h with h | h
        · exact .inl (.inl h)
        · rcases ih h with h | h
          · exact .inl (.inr h)
          · exact .inr h

/-- The keys of a memory after a write lie above a bound that they and the new address lay above. -/
theorem Memory.above_write (m : Memory) (low a : Nat) (v : Byte) (h : Memory.above low m = true) (ha : low < a) :
    Memory.above low (m.write a v) = true := by
  simp only [Memory.above, List.all_eq_true, decide_eq_true_eq] at *
  intro c hc
  rcases Memory.mem_write m a v c hc with hc | hc
  · exact h c hc
  · rw [hc]; exact ha

/-- A smaller bound holds too. -/
theorem Memory.above_of_lt (m : Memory) (x y : Nat) (h : Memory.above y m = true) (hxy : x ≤ y) :
    Memory.above x m = true := by
  simp only [Memory.above, List.all_eq_true, decide_eq_true_eq] at *
  intro c hc; have := h c hc; omega

/-- A write keeps the canonical form. -/
theorem Memory.wf_write (m : Memory) (a : Nat) (v : Byte) (h : m.wf = true) : (m.write a v).wf = true := by
  induction m with
  | nil => simp only [Memory.write]; split <;> simp_all [Memory.wf, Memory.above]
  | cons c rest ih =>
    obtain ⟨k, w⟩ := c
    have h' := h
    simp only [Memory.wf, Bool.and_eq_true, bne_iff_ne, ne_eq] at h
    obtain ⟨⟨hw, habove⟩, hrest⟩ := h
    simp only [Memory.write]
    split
    · rename_i hak
      split
      · exact h'
      · rename_i hv
        have hb := Memory.above_of_lt rest a k habove (by omega)
        simp only [Memory.above] at hb
        simp [Memory.wf, Memory.above, hv, hak, hb, hw, hrest] at *
        exact habove
    · split
      · split
        · exact hrest
        · rename_i hak hv
          subst hak
          simp [Memory.wf, hv, habove, hrest]
      · simp only [Memory.wf, Bool.and_eq_true, bne_iff_ne, ne_eq]
        exact ⟨⟨hw, Memory.above_write rest k a v habove (by omega)⟩, ih hrest⟩

/-- Every address a memory lists exists (R112). -/
abbrev Memory.inRange (m : Memory) : Prop := ∀ c ∈ m, c.1 < 2048

/-- A write to a byte that exists stays in range. -/
theorem Memory.inRange_write (m : Memory) (o : ExOffset) (v : Byte) (h : m.inRange) :
    Memory.inRange (m.write o.toNat v) := by
  intro c hc
  rcases Memory.mem_write m _ _ c hc with hc | hc
  · exact h c hc
  · rw [hc]; exact o.isLt

/-- A run of enabled bytes keeps the canonical form. -/
theorem Memory.wf_writeBytes (m : Memory) (o : ExOffset) (es : List Bool) (bs : List Byte) (h : m.wf = true) :
    (m.writeBytes o es bs).wf = true := by
  induction es generalizing m o bs with
  | nil => simpa [Memory.writeBytes] using h
  | cons e es ih =>
    cases bs with
    | nil => simpa [Memory.writeBytes] using h
    | cons b bs =>
      simp only [Memory.writeBytes]
      apply ih
      split
      · exact Memory.wf_write _ _ _ h
      · exact h

/-- A run of enabled bytes stays in range. -/
theorem Memory.inRange_writeBytes (m : Memory) (o : ExOffset) (es : List Bool) (bs : List Byte) (h : m.inRange) :
    Memory.inRange (m.writeBytes o es bs) := by
  induction es generalizing m o bs with
  | nil => simpa [Memory.writeBytes] using h
  | cons e es ih =>
    cases bs with
    | nil => simpa [Memory.writeBytes] using h
    | cons b bs =>
      simp only [Memory.writeBytes]
      apply ih
      split
      · exact Memory.inRange_write _ _ _ h
      · exact h

/-- A run of writes leaves every byte outside it as it was. -/
theorem Memory.read_writeBytes_outside (m : Memory) (o : ExOffset) (es : List Bool) (bs : List Byte) (a : Nat)
    (h : m.wf = true) (ha : ∀ i < es.length, a ≠ (o + BitVec.ofNat 11 i).toNat) :
    (m.writeBytes o es bs).read a = m.read a := by
  induction es generalizing m o bs with
  | nil => simp [Memory.writeBytes]
  | cons e es ih =>
    cases bs with
    | nil => simp [Memory.writeBytes]
    | cons b bs =>
      have h0 : a ≠ o.toNat := by simpa using ha 0 (by simp)
      have hs : ∀ i < es.length, a ≠ (o + 1#11 + BitVec.ofNat 11 i).toNat := by
        intro i hi
        have := ha (i + 1) (by simpa using hi)
        rwa [BitVec.ofNat_add, BitVec.add_comm (BitVec.ofNat 11 i), ← BitVec.add_assoc] at this
      simp only [Memory.writeBytes]
      split
      · rw [ih _ _ _ (Memory.wf_write _ _ _ h) hs, Memory.read_write _ _ _ _ h, if_neg h0]
      · exact ih _ _ _ h hs

/-- As many bytes are read as asked for. -/
@[simp] theorem Memory.length_readBytes (m : Memory) (o : ExOffset) (n : Nat) : (m.readBytes o n).length = n := by
  induction n generalizing o with
  | zero => rfl
  | succ n ih => simp [Memory.readBytes, ih]

/-- Byte `i` of a run is the byte at its offset. -/
theorem Memory.getElem_readBytes (m : Memory) (o : ExOffset) (n i : Nat) (h : i < (m.readBytes o n).length) :
    (m.readBytes o n)[i] = m.read (o + BitVec.ofNat 11 i).toNat := by
  induction n generalizing o i with
  | zero => simp at h
  | succ n ih =>
    cases i with
    | zero => simp [Memory.readBytes]
    | succ i =>
      simp only [Memory.readBytes, List.getElem_cons_succ]
      rw [ih]
      congr 2
      rw [BitVec.ofNat_add, BitVec.add_comm (BitVec.ofNat 11 i), ← BitVec.add_assoc]

/-- The empty memory of reset is in the canonical form. -/
theorem reset_memory_wf : State.reset.xmm.mem.wf = true := rfl

/-- The bytes from an offset on, without the first few, are the bytes from a later offset on. -/
theorem Memory.drop_readBytes (m : Memory) (o : ExOffset) (k n : Nat) (h : k ≤ n) :
    (m.readBytes o n).drop k = m.readBytes (o + BitVec.ofNat 11 k) (n - k) := by
  induction k generalizing o n with
  | zero => simp
  | succ k ih =>
    obtain ⟨n, rfl⟩ : ∃ n', n = n' + 1 := ⟨n - 1, by omega⟩
    have hk : BitVec.ofNat 11 (k + 1) = 1#11 + BitVec.ofNat 11 k := by rw [BitVec.ofNat_add, BitVec.add_comm]
    simp only [Memory.readBytes, List.drop_succ_cons, Nat.add_sub_add_right]
    rw [ih _ _ (by omega), hk, BitVec.add_assoc]

/-- A word of the bytes from an offset on is the word at its own offset (R63, R122). -/
theorem wordAt_readBytes (m : Memory) (o : ExOffset) (j n : Nat) (h : 4 * j + 4 ≤ n) :
    wordAt (m.readBytes o n) j = wordOfBytes (m.readBytes (o + BitVec.ofNat 11 (4 * j)) 4) := by
  have h0 : ∀ (o : ExOffset) n, 4 ≤ n → wordAt (m.readBytes o n) 0 = wordOfBytes (m.readBytes o 4) := by
    intro o n hn
    obtain ⟨n, rfl⟩ : ∃ n', n = n' + 4 := ⟨n - 4, by omega⟩
    rfl
  have hd : wordAt (m.readBytes o n) j = wordAt ((m.readBytes o n).drop (4 * j)) 0 := by simp [wordAt]
  rw [hd, m.drop_readBytes _ _ _ (by omega), h0 _ _ (by omega)]

end Sys2Proof.Machine
end

