-- ==== Sys2Proof/Laws/WindowMap.lean ====
section
/-! SUPPORT. The Window Map: consistent entries are CLEAN, and what a translation answers. -/

namespace Sys2Proof.Machine

/-- A computed entry is consistent (R45, R47). -/
@[simp] theorem MapEntry.computed_consistent (flags : Byte) (frame : Frame) :
    (MapEntry.computed flags frame).consistent = true := by
  simp [MapEntry.consistent, MapEntry.computed, MapEntry.dataBits]

/-- A consistent entry is CLEAN (R47). -/
theorem MapEntry.classify_consistent (e : MapEntry) (h : e.consistent = true) : e.classify = .clean := by
  simp [MapEntry.classify, h]

/-- A computed entry is CLEAN. -/
@[simp] theorem MapEntry.computed_classify (flags : Byte) (frame : Frame) :
    (MapEntry.computed flags frame).classify = .clean :=
  MapEntry.classify_consistent _ (MapEntry.computed_consistent _ _)

/-- The zero entry is CLEAN, whatever the code (R44, R47). -/
@[simp] theorem MapEntry.zero_classify : MapEntry.zero.classify = .clean := by
  refine MapEntry.classify_consistent _ ?_
  have h : MapEntry.zero.dataBits = 0#36 := by decide
  rw [MapEntry.consistent, h, Config.checkCode.field_zero]; rfl

/-- Replacing an entry and reading it back. -/
@[simp] theorem State.mapEntry_setMapEntry (s : State) (page : Byte) (e : MapEntry) :
    (s.setMapEntry page e).mapEntry page = e := by
  simp [State.mapEntry, State.setMapEntry, Vector.get_eq_getElem]

/-- The other entries stay. -/
theorem State.mapEntry_setMapEntry_other (s : State) (page other : Byte) (e : MapEntry) (h : other ≠ page) :
    (s.setMapEntry page e).mapEntry other = s.mapEntry other := by
  have hn : page.toNat ≠ other.toNat := fun hc => h (BitVec.eq_of_toNat_eq hc.symm)
  simp [State.mapEntry, State.setMapEntry, Vector.get_eq_getElem, Vector.getElem_set_ne, hn]

/-- A translation through a CLEAN entry that resolves changes nothing (R50). -/
theorem State.translate_ok (s : State) (page offset : Byte) (k : AccessKind) (silent : Bool) (wp wo : Byte)
    (t : Translation) (hc : (s.mapEntry page).classify = .clean) (ht : (s.mapEntry page).resolve offset k = .ok t) :
    s.translate page offset k silent wp wo = (s, some t) := by
  simp [State.translate, hc, State.resolve, ht]

/-- A translation through a CLEAN entry that fails raises its fault unless it is silent (R50, R52, R53). -/
theorem State.translate_error (s : State) (page offset : Byte) (k : AccessKind) (silent : Bool) (wp wo : Byte)
    (c : FaultCode) (hc : (s.mapEntry page).classify = .clean) (ht : (s.mapEntry page).resolve offset k = .error c) :
    s.translate page offset k silent wp wo = (s.raiseUnless silent (mapFault c k wp wo), none) := by
  simp [State.translate, hc, State.resolve, ht]

/-- A SPAN page that permits an access resolves to its frame and the offset (R50). -/
theorem MapEntry.resolve_span (m : MapEntry) (offset : Byte) (k : AccessKind) (hv : m.valid = true)
    (hp : m.permits k = true) (hx : m.toExchange = false) :
    m.resolve offset k =
      .ok { dest := .span (m.frame ++ offset), confirm := m.confirm, prefetch := m.prefetch, reread := m.reread } := by
  simp [MapEntry.resolve, hv, hp, hx]

/-- An EXCHANGE page whose frame is 0 to 7 and that permits an access resolves to an Exchange offset (R50). -/
theorem MapEntry.resolve_exchange (m : MapEntry) (offset : Byte) (k : AccessKind) (hv : m.valid = true)
    (hp : m.permits k = true) (hx : m.toExchange = true) (hf : m.frame.toNat ≤ 7) :
    m.resolve offset k =
      .ok { dest := .exchange (m.frame.setWidth 3 ++ offset), confirm := m.confirm, prefetch := m.prefetch,
            reread := m.reread } := by
  simp [MapEntry.resolve, hv, hp, hx, hf]

/-- The seal of a pack whose page permits it and maps to Span: its WRITE is placed (R34, R35, R50). -/
theorem State.seal_span (s : State) (m : MapEntry) (p : Pack) (hp : s.streams.pack = some p)
    (hm : m = s.mapEntry p.page) (hc : m.classify = .clean) (hv : m.valid = true) (hw : m.mayWrite = true)
    (hx : m.toExchange = false) : s.seal = s.dropPack.takeSerial.place (m.packRequest p s.sched.serial) := by
  subst hm
  unfold State.seal
  rw [hp]
  simp only
  rw [State.translate_ok s.dropPack p.page _ .write _ _ _ _ hc (MapEntry.resolve_span _ _ .write hv hw hx)]
  rfl

/-- A demand fetch from a page that permits it and maps to Span: its READ is placed (R38, R50). -/
theorem State.demandFetch_span (s : State) (m : MapEntry) (hm : m = s.mapEntry s.addr.pageCtr)
    (hc : m.classify = .clean) (hv : m.valid = true) (hr : m.mayRead = true) (hx : m.toExchange = false) :
    s.demandFetch =
      ((s.setCurrent (unitBuffer (.fetching s.sched.serial) s.addr.pageCtr s.addr.unitFirst)).takeSerial).place
        (fetchRequest .hostFetch s.addr.unitWords
          { dest := .span (m.frame ++ s.addr.unitFirst), confirm := m.confirm, prefetch := m.prefetch, reread := m.reread }
          s.addr.pageCtr s.addr.offCtr s.sched.serial) := by
  subst hm
  unfold State.demandFetch
  simp only
  rw [State.translate_ok _ _ _ _ _ _ _ _ hc (MapEntry.resolve_span _ _ .read hv hr hx)]

/-- Where a host request goes: the queue, the staging slot, or the deferred request (R35). -/
theorem State.place_cases (r : Request) (s : State) :
    (s.engine.queue.length < 8 ∧ s.place r = s.enqueue r) ∨
      (8 ≤ s.engine.queue.length ∧ s.streams.staging = none ∧ s.place r = s.stage r) ∨
      (8 ≤ s.engine.queue.length ∧ s.streams.staging ≠ none ∧
        s.place r = { s with streams := { s.streams with deferred := some r } }) := by
  by_cases h : s.engine.queue.length < 8
  · exact .inl ⟨h, by simp [State.place, State.freeEntry, h]⟩
  · cases hs : s.streams.staging with
    | none => exact .inr (.inl ⟨by omega, rfl, by simp [State.place, State.freeEntry, h, hs]⟩)
    | some r' => exact .inr (.inr ⟨by omega, by simp, by simp [State.place, State.freeEntry, h, hs]⟩)

/-- Where a lock request goes: the queue, the staging slot, or the Interlock Unit (R96). -/
theorem State.placeLock_cases (r : Request) (s : State) :
    (s.engine.queue.length < 8 ∧ s.placeLock r = s.enqueue r) ∨
      (8 ≤ s.engine.queue.length ∧ s.streams.staging = none ∧ s.placeLock r = s.stage r) ∨
      (8 ≤ s.engine.queue.length ∧ s.streams.staging ≠ none ∧
        s.placeLock r = { s with ilu := { s.ilu with waiting := some r } }) := by
  by_cases h : s.engine.queue.length < 8
  · exact .inl ⟨h, by simp [State.placeLock, State.freeEntry, h]⟩
  · cases hs : s.streams.staging with
    | none => exact .inr (.inl ⟨by omega, rfl, by simp [State.placeLock, State.freeEntry, h, hs]⟩)
    | some r' => exact .inr (.inr ⟨by omega, by simp, by simp [State.placeLock, State.freeEntry, h, hs]⟩)

end Sys2Proof.Machine
end

