-- ==== Sys2Proof/Laws/Streams.lean ====
section
/-! SUPPORT. The streams' data: when a pack is full, how a beat's bytes enter the data assembled at a tag, and what the one
beat of a transaction comes to. -/

namespace Sys2Proof.Machine

/-- A pack with one more byte is full when every other position was enabled (R32). -/
theorem Pack.put_full_iff (p : Pack) (o b : Byte) :
    (p.put o b).full = true ↔ ∀ i : Fin 32, i ≠ positionOf o → (p.bytes.get i).isSome = true := by
  simp only [Pack.full, Pack.put, List.all_eq_true, Vector.get_eq_getElem]
  constructor
  · intro h i hi
    have hx := h ((p.bytes.set (positionOf o).val (some b))[i.val]) (by simp)
    rwa [Vector.getElem_set_ne] at hx
    exact fun hc => hi (Fin.ext hc.symm)
  · intro h x hx
    obtain ⟨j, hj, rfl⟩ := List.getElem_of_mem hx
    simp at hj
    simp only [Vector.getElem_toList]
    by_cases hjo : (positionOf o).val = j
    · subst hjo; simp
    · rw [Vector.getElem_set_ne _ _ hjo]
      exact h ⟨j, hj⟩ (fun hc => hjo (by rw [← hc]))

/-- A pack with one byte in it is not full. -/
theorem Addressing.newPack_not_full (a : Addressing) (o b : Byte) : (a.newPack.put o b).full = false := by
  rw [Bool.eq_false_iff]
  intro h
  rw [Pack.put_full_iff] at h
  by_cases h0 : positionOf o = 0
  · have := h 1 (by rw [h0]; decide)
    simp [Addressing.newPack, Vector.get_eq_getElem] at this
  · have := h 0 (fun hc => h0 hc.symm)
    simp [Addressing.newPack, Vector.get_eq_getElem] at this

/-- Eight bytes replace the eight bytes of a doubleword (R85). -/
theorem splice_doubleword (data bs : List Byte) (h : data.length = 8) (hb : bs.length = 8) : splice data 0 bs = bs := by
  simp [splice, h, hb, List.drop_eq_nil_of_le]

/-- The one beat that a tag awaits completes its transaction (R85, R86). -/
theorem State.scoreBeat_completes (e : State) (p : Beat) (b : BusyTag) (hb : e.tag p.tag = .busy b)
    (ha : b.awaiting = true) (hx : b.expected = 1) (hr : b.received = []) (hn : p.number = 0) (hs : p.status ≠ .held) :
    e.scoreBeat p = e.completeTag p.tag (b.record p) := by
  have hc : (b.record p).complete = true := by simp [BusyTag.complete, BusyTag.record, hx, hn, hr]
  unfold State.scoreBeat
  simp [hb, ha, hx, hn, hr, hs, State.recordBeat, hc]

/-- The worst status of a transaction after its first beat (R85). -/
theorem DataStatus.good_worse (w : BeatStatus) (h : w ≠ .held) :
    DataStatus.good.worse w.data = if w = .good then .good else if w = .mended then .mended else .spoiled := by
  cases w <;> simp_all [DataStatus.worse, BeatStatus.data]

end Sys2Proof.Machine
end

