-- ==== Sys2Proof/WellFormed.lean ====
section
/-! DEFINITION. Which terms of `Instr` a sender can mean: parameter lists no longer than the command owes, an unknown
byte that is unknown, and packets whose enables and data have the shape R60 gives their kind. -/

namespace Sys2Proof

/-- The memory kinds that carry byte enables and data (R60). -/
def MemoryKind.writes : MemoryKind → Bool
  | .write | .unlockWrite => true
  | .read | .lockRead => false

/-- A packet's enables and data number one per byte of its length for the writing kinds and are absent otherwise, and
only a writing kind has a CONFIRM flag (R60). Length and alignment are the receiver's own check (R61). -/
def MemoryPacket.shapely (p : MemoryPacket) : Bool :=
  if p.kind.writes then p.enables.length == 4 * p.words && p.data.length == 4 * p.words
  else p.enables.isEmpty && p.data.isEmpty && !p.confirm

/-- No more parameter bytes than the command can owe (R4). -/
def Command.allows (c : Command) (params : List Byte) : Bool := params.length ≤ c.owed true

/-- The commands a sender can mean. -/
def Instr.wellFormed : Instr → Bool
  | .unknownCommandByte b => (decodeCommandByte b).isNone
  | .setPage ps => Command.setPage.allows ps
  | .setOffset ps => Command.setOffset.allows ps
  | .setAddress ps => Command.setAddress.allows ps
  | .direction ps => Command.direction.allows ps
  | .windowLimit ps => Command.windowLimit.allows ps
  | .storeUnlock ps => Command.storeUnlock.allows ps
  | .mapWrite ps => Command.mapWrite.allows ps
  | .mapRead ps => Command.mapRead.allows ps
  | .gateWrite ps => Command.gateWrite.allows ps
  | .gateRead ps => Command.gateRead.allows ps
  | .set ps => Command.set.allows ps
  | .sendNotice ps => Command.sendNotice.allows ps
  | .sendRecall ps => Command.sendRecall.allows ps
  | .faultClear ps => Command.faultClear.allows ps
  | .inboundMemoryRequest p => p.shapely
  | .orphanedReceipt _ | .sendPointReceipt _ | .reportQueueReceipt _ | .beatReceipt _ | .abandonedOfferReceipt _ => true
  | .nop | .parameterByte _ | .csRelease | .dataByte _ | .dataRead | .nextLine | .reload | .clearCounters
  | .writeStream | .readStream | .drain | .drainComplete | .fetchLock | .releaseLock => true
  | .reportIdentity _ _ | .reportCounters _ | .reportFault _ | .reportSummary _ | .reportEngine _
  | .reportStatistics _ | .reportSetting _ | .reportLock _ | .reportTaken _ => true
  | .takeNotice | .faultRelease | .abort | .restartFirstByte | .restart | .sleep | .wake => true
  | .powerOnReset _ | .pinReset _ | .resetInitializationEnd | .resetEnd | .spanResetAssertion
  | .spanResetDeassertion | .claimLineChange _ | .claimDriveAfterWait | .mapUpset _ _ | .tickBoundary
  | .sendTurn => true
  | .inboundNotice _ | .inboundRecall _ | .inboundFaultReport _ | .beat _ => true
  | .responseTimerExpiry _ | .sendPointRetryExpiry | .lockFetchRetryExpiry | .reportRetryExpiry
  | .beatRetryExpiry | .exchangeFetchRetryExpiry | .nodeHoldExpiry _ | .hostHoldExpiry | .claimTimerExpiry
  | .quarantineExpiry _ => true
  | .headToSendPoint | .localRequestGrant | .exchangeLockAttempt | .inboundReadGrant | .inboundWriteGrant
  | .inboundLockReadGrant | .inboundUnlockWriteGrant | .stagedRequestEntry | .waitingLockRequestPlacement => true

end Sys2Proof
end

