-- ==== Sys2Proof/Tests/Slice0.lean ====
section
/-! SUPPORT. The author's own tests: ill-formed terms, the command bytes, worked examples of the manual, and for each
statement with hypotheses a state that meets them. -/

namespace Sys2Proof.Tests

open Sys2Proof Sys2Proof.Machine

/-! ### Ill-formed terms are refused -/

/-- A byte too many for each command, R4. -/
theorem test_too_many_parameters_refused :
    ∀ i ∈ [Instr.setPage [0, 0], .setOffset [0, 0], .setAddress [0, 0, 0], .direction [0, 0], .windowLimit [0, 0, 0],
        .storeUnlock (List.replicate 10 0), .mapWrite (List.replicate 8 0), .mapRead [0, 0],
        .gateWrite (List.replicate 8 0), .gateRead [0, 0], .set [0, 0, 0, 0], .sendNotice (List.replicate 5 0),
        .sendRecall (List.replicate 5 0), .faultClear [0, 0]], i.wellFormed = false := by decide

/-- A known byte is no unknown command byte. -/
theorem test_known_byte_refused : (Instr.unknownCommandByte 0x3E#8).wellFormed = false := by decide

/-- A one-word WRITE request at 0 as other tests vary it. -/
def writePacket : MemoryPacket :=
  { kind := .write, source := 3, tag := 1, address := 0x200008#36, words := 1, confirm := false
    enables := [true, false, true, false], data := [1, 2, 3, 4], valueOk := true }

/-- Enables or data of the wrong number, and a READ with enables, with data or with CONFIRM (R60). -/
theorem test_misshapen_packets_refused :
    ∀ p ∈ [{ writePacket with enables := [true] }, { writePacket with data := [] },
        { writePacket with kind := .read }, { writePacket with kind := .read, enables := [] },
        { writePacket with kind := .read, data := [] },
        { writePacket with kind := .lockRead, enables := [], data := [], confirm := true }],
      (Instr.inboundMemoryRequest p).wellFormed = false := by decide

/-- Well-formed terms are accepted. -/
theorem test_well_formed_accepted :
    ∀ i ∈ [Instr.nop, .unknownCommandByte 0x3D#8, .setAddress [1, 2], .mapWrite (List.replicate 7 0), .setPage [],
        .inboundMemoryRequest writePacket], i.wellFormed = true := by decide

/-! ### Command bytes of section 1.3 -/

theorem test_command_bytes : decodeCommandByte 0x00#8 = some .nop ∧ decodeCommandByte 0x19#8 = some .storeUnlock ∧
    decodeCommandByte 0x29#8 = some .report ∧ decodeCommandByte 0x3F#8 = some .restart ∧
    decodeCommandByte 0x41#8 = some .wake ∧ decodeCommandByte 0x09#8 = none ∧ decodeCommandByte 0xFF#8 = none := by
  decide

theorem test_no_row_gives_bits : decodeTableWord 8 0x12 = none := rfl

/-! ### The manual's worked examples -/

/-- The state a command leaves. -/
def after (i : Instr) (s : State) : State :=
  match exec i s with
  | .next t => t
  | .fault _ => s
  | .refused _ => s

/-- The state a list of commands leaves. -/
def run (is : List Instr) (s : State) : State := is.foldl (fun s i => after i s) s

/-- Chapter 2, a raster of four lines: WINDOW LIMIT moves the page to 20h, NEXT LINE steps it and reloads the offset. -/
theorem test_raster_line : (run [.windowLimit [0x20, 0x23], .setOffset [0x40], .nextLine] State.reset).addr.pageCtr = 0x21 ∧
    (run [.windowLimit [0x20, 0x23], .setOffset [0x40], .nextLine] State.reset).addr.offCtr = 0x40 := by decide

/-- Chapter 2: a fourth NEXT LINE finds the page at the high limit and sets the page edge flag. -/
theorem test_raster_edge :
    (run [.windowLimit [0x23, 0x23], .nextLine] State.reset).addr.pageEdge = true ∧
      (run [.windowLimit [0x23, 0x23], .nextLine] State.reset).statusByte = 0x20 := by decide

/-- Chapter 1, a cut SET ADDRESS: the page goes to the register alone, with PARAM_CUT (code 02h). -/
theorem test_cut_set_address :
    (run [.setAddress [0x40], .csRelease, .reportFault none] State.reset).addr.pageReg = 0x40 ∧
      (run [.setAddress [0x40], .csRelease, .reportFault none] State.reset).addr.pageCtr = 0x00 ∧
      (run [.setAddress [0x40], .csRelease, .reportFault none] State.reset).log.summary = 0x4#32 := by decide

/-- Chapter 1, reading the IDENTITY report: the first byte is the part code's low byte, and READY and MODE 3 show. -/
theorem test_identity_first_byte :
    (run [.reportIdentity 5 (some 0), .dataRead] State.reset).out.hostData = some 0x3E ∧
      (run [.reportIdentity 5 (some 0)] State.reset).statusByte = 0x43 := by decide

/-- A pack with the given positions enabled. -/
def packOf (ps : List Nat) : Pack :=
  { page := 0, block := 0, bytes := Vector.ofFn fun i => if ps.contains i.val then some 0xAA#8 else none }

/-- Chapter 2, the table of request lengths: words and first position. -/
theorem test_request_lengths :
    ((packOf [5]).words, (packOf [5]).start) = (1, 4) ∧ ((packOf [6, 7, 8]).words, (packOf [6, 7, 8]).start) = (4, 0) ∧
      ((packOf [16, 23]).words, (packOf [16, 23]).start) = (2, 16) ∧
      ((packOf [12, 20]).words, (packOf [12, 20]).start) = (8, 0) := by decide

/-- An unknown command byte logs CMD_UNKNOWN, a soft fault, and FAULT_SOFT is off at reset (R9, R135). -/
theorem test_unknown_byte : (run [.unknownCommandByte 0x0F] State.reset).log.summary = 0x2#32 ∧
    (run [.unknownCommandByte 0x0F] State.reset).atn = false := by decide

/-- DRAIN with nothing to drain sets the IDLE latch at once, and the next command byte clears it (R5, R16). -/
theorem test_drain_latch : (run [.drain] State.reset).host.idleLatch = true ∧
    (run [.drain, .nop] State.reset).host.idleLatch = false := by decide

/-- RESTART takes two bytes in succession; a data read between them breaks the pair (R12). -/
theorem test_restart_pair : (run [.setOffset [9], .restartFirstByte, .restart] State.reset).addr.offReg = 0 ∧
    (run [.setOffset [9], .restartFirstByte, .dataRead, .restart] State.reset).addr.offReg = 9 := by decide

/-- SLEEP is refused by the filter in sleep, and WAKE ends sleep (R6, R162, R163). -/
theorem test_sleep_wake : (run [.sleep, .setOffset [9]] State.reset).addr.offReg = 0 ∧
    (run [.sleep] State.reset).statusByte = 0x04 ∧ (run [.sleep, .wake] State.reset).statusByte = 0x00 := by decide

/-- SET of a bit that must be 0 is PARAM_RANGE; RETRY LIMIT takes a code of 4 bits (R150, R151). -/
theorem test_set : (run [.set [2, 0x0F, 0]] State.reset).retryLimit = 15 ∧
    (run [.set [2, 0x10, 0]] State.reset).retryLimit = 11 ∧
    (run [.set [2, 0x10, 0]] State.reset).log.summary = 0x8#32 := by decide

/-- Chapter 7, the gate plan's second example: the entry for doublewords 00h to 0Fh denies node 5's WRITE at 08h. -/
theorem test_gate_plan :
    (run [.gateWrite [0, 0xC0, 0x0A, 0x00, 0xF0, 0xFF, 0xFF], .gateWrite [2, 0x80, 0x01, 0x00, 0x00, 0x24, 0x00]]
        State.reset).gateDecision .write 5 8 = false ∧
      (run [.gateWrite [0, 0xC0, 0x0A, 0x00, 0xF0, 0xFF, 0xFF], .gateWrite [2, 0x80, 0x01, 0x00, 0x00, 0x24, 0x00]]
        State.reset).gateDecision .read 2 0x50 = true := by decide +kernel

/-- Aperture 200h enabled and every access permitted. -/
def openAperture : State :=
  { State.reset with settings := (State.reset.settings.set 5 0x0200#16).set 6 0x8000#16 |>.set 8 0x0001#16 }

/-- An inbound WRITE in the aperture is TAKEN and, at the end of the step, writes its enabled bytes alone (R68, R123). -/
theorem test_inbound_write :
    (run [.inboundMemoryRequest writePacket] openAperture).out.receipt = some .taken ∧
      (run [.inboundMemoryRequest writePacket, .inboundWriteGrant] openAperture).xmm.mem = [(8, 1), (10, 3)] ∧
      (run [.inboundMemoryRequest writePacket, .inboundWriteGrant] openAperture).inbound.queue = [] := by decide

/-- The gate's reset default denies (R120), and a packet whose check fails is answered CHECK (R61). -/
theorem test_inbound_refusals :
    (run [.inboundMemoryRequest writePacket]
        { openAperture with settings := openAperture.settings.set 8 0#16 }).out.receipt = some .denied ∧
      (run [.inboundMemoryRequest { writePacket with valueOk := false }] openAperture).out.receipt = some .check ∧
      (run [.inboundMemoryRequest { writePacket with address := 0x201008#36 }] openAperture).out.receipt = none := by
  decide

/-- A NOTICE for node 0 with a level. -/
def notice (level : Nat) (code : NoticeCode) : NoticePacket :=
  { source := 4, destination := 0, level := level, code := code, valueOk := true }

/-- TAKE NOTICE takes the highest level first (R130). -/
theorem test_take_notice :
    ((run [.inboundNotice (notice 1 7), .inboundNotice (notice 2 9), .takeNotice] State.reset).host.report.get 1,
      (run [.inboundNotice (notice 1 7), .inboundNotice (notice 2 9), .takeNotice] State.reset).host.report.get 4) =
      (2, 9) := by decide

/-- A RECALL withdraws the queued notice of its source, level and code (R129). -/
theorem test_recall :
    (run [.inboundNotice (notice 1 7), .inboundRecall (notice 1 7)] State.reset).notices.queue = [] := by decide

/-- SEND NOTICE is offered at the next send turn, and TAKEN ends it (R74, R80, R133). -/
theorem test_send_notice :
    (run [.sendNotice [7, 2, 0x34, 0x12], .sendTurn] State.reset).out.packet = some (.note .notice 0 7 2 0x1234) ∧
      (run [.sendNotice [7, 2, 0x34, 0x12], .sendTurn, .sendPointReceipt .taken] State.reset).engine.sendPoint = none := by
  decide

/-- A refused offer waits for the tick boundary (R82). -/
theorem test_refused_waits :
    (run [.sendNotice [7, 2, 0, 0], .sendTurn, .sendPointReceipt .full, .sendTurn] State.reset).engine.outstanding = none ∧
      (run [.sendNotice [7, 2, 0, 0], .sendTurn, .sendPointReceipt .full, .tickBoundary, .sendTurn]
        State.reset).engine.outstanding = some .sendPoint ∧
      (run [.sendNotice [7, 2, 0, 0], .sendTurn, .sendPointReceipt .full] State.reset).engine.retries = 1 := by decide

/-- SPAN-RESET with nothing outstanding is soft (R160); with a notice alone it is soft too. -/
theorem test_span_reset : (run [.spanResetAssertion] State.reset).log.summary = 0x2000000#32 ∧
    (run [.spanResetAssertion] State.reset).pins.spanReset = true := by decide

/-- A pin reset answers FULL for a NOTICE to its node, and ends with the settings at their reset values (R71, R158). -/
theorem test_pin_reset :
    (run [.pinReset 6, .inboundNotice { notice 1 7 with destination := 6 }] State.reset).out.receipt = some .full ∧
      (run [.set [2, 3, 0], .pinReset 6, .resetEnd, .resetInitializationEnd] State.reset).retryLimit = 11 ∧
      (run [.pinReset 6, .resetEnd, .resetInitializationEnd] State.reset).power.node = 6 := by decide

/-- MAP WRITE computes the check field, so MAP READ finds the entry CLEAN (R45, R55). -/
theorem test_map_write_is_clean (s : State) (h : s.atHost.readyForCommand) (hs : s.atHost.checkSupply = false) :
    ((after (.mapWrite [0x12, 0xB3, 0x67, 0x45, 0x23, 0x00]) s).mapEntry 0x12).classify = .clean := by
  have he := State.commands_ready s s.atHost .mapWrite [0x12, 0xB3, 0x67, 0x45, 0x23, 0x00] (by decide) rfl h
    (by simp [Command.owed, hs]) (by simp)
  have hx : after (.mapWrite [0x12, 0xB3, 0x67, 0x45, 0x23, 0x00]) s =
      s.hostWrites (Command.mapWrite.byte :: [0x12, 0xB3, 0x67, 0x45, 0x23, 0x00]) := rfl
  rw [hx, he]
  have hm : ∀ t : State, t.logBatch.mapEntry 0x12 = t.mapEntry 0x12 := by
    intro t; simp [State.mapEntry]
  rw [hm]
  have hw : s.atHost.started.execute .mapWrite [0x12, 0xB3, 0x67, 0x45, 0x23, 0x00] =
      s.atHost.started.setMapEntry 0x12 (.computed 0xB3 (frameOfBytes 0x67 0x45 0x23 0x00)) := rfl
  rw [hw]; simp

/-! ### Witnesses: a state and operands that meet the hypotheses of each statement, case by case -/

/-- A state is ready for a command, as a test that computes. -/
theorem ready_of (e : State)
    (h : (e.running && !e.power.asleep && e.streams.staging.isNone && e.streams.pack.isNone &&
      e.host.collected.isNone && (e.host.decoder != .collecting) && e.raised.isEmpty) = true) : e.readyForCommand := by
  simp only [Bool.and_eq_true, Bool.not_eq_true', Option.isNone_iff_eq_none, bne_iff_ne, List.isEmpty_iff] at h
  obtain ⟨⟨⟨⟨⟨⟨h1, h2⟩, h3⟩, h4⟩, h5⟩, h6⟩, h7⟩ := h
  exact ⟨h1, h2, h3, h4, h5, h6, h7⟩

/-- Ready states: the reset state, one in PAGE-MAJOR, and one with CHECK SUPPLY on. -/
def pageMajor : State := { State.reset with addr := { State.reset.addr with pageMajor := true, offCtr := 255#8 } }
def checkSupplyOn : State := { State.reset with settings := State.reset.settings.set 9 1#16 }

/-- For every statement about a command at a ready bridge, and NOP, UNKNOWN, WRITE STREAM and SLEEP among them. -/
theorem witness_ready : State.reset.atHost.readyForCommand ∧ decodeCommandByte 0x0F#8 = none ∧
    State.reset.atHost.addr.pageMajor = false := ⟨ready_of _ (by decide), by decide, by decide⟩

/-- CountersAreReloaded, the second axis. -/
theorem witness_pageMajor : pageMajor.atHost.readyForCommand ∧ pageMajor.atHost.addr.pageMajor = true :=
  ⟨ready_of _ (by decide), by decide⟩

theorem witness_step : State.reset.pending = [] ∧ State.reset.sched.phase = .between := by decide

theorem witness_timers : State.reset.running = true ∧ State.reset.sched.phase = .between ∧ State.reset.raised = [] ∧
    State.reset.startTimers.nextExpiry = none := by decide

/-- Every page maps to SPAN with the given flags. -/
def mapped (flags : Byte) (frame : Frame) (s : State) : State :=
  { s with map := Vector.replicate 256 (MapEntry.computed flags frame) }

theorem mapped_entry (flags : Byte) (frame : Frame) (e : State) (p : Byte)
    (h : e.map = Vector.replicate 256 (MapEntry.computed flags frame)) :
    e.mapEntry p = MapEntry.computed flags frame := by
  simp [State.mapEntry, h, Vector.get_eq_getElem]

/-- WRITE STREAM with one byte in the open pack, every page writable. -/
def packing : State :=
  mapped 0xBC 5
    { State.reset with
      host := { State.reset.host with decoder := .writeStream }
      streams := { State.reset.streams with pack := some (packOf [31]) } }

/-- NopRunsThePrelude, the seal. -/
theorem witness_seal : packing.atHost.running = true ∧ packing.atHost.power.asleep = false ∧
    packing.atHost.streams.staging = none ∧ packing.atHost.host.collected = none ∧
    packing.atHost.host.decoder = .writeStream ∧ packing.atHost.raised = [] ∧
    packing.atHost.streams.pack = some (packOf [31]) ∧ (packing.atHost.mapEntry 0).classify = .clean ∧
    (packing.atHost.mapEntry 0).valid = true ∧ (packing.atHost.mapEntry 0).mayWrite = true ∧
    (packing.atHost.mapEntry 0).toExchange = false ∧ packing.atHost.engine.queue.length < 8 := by
  have h : packing.atHost.mapEntry 0 = MapEntry.computed 0xBC 5 := mapped_entry _ _ _ _ rfl
  rw [h]
  refine ⟨by decide, by decide, by decide, by decide, by decide, by decide, by decide, by simp, rfl, rfl, ?_, by decide⟩
  · rfl

theorem witness_sealedSpan : ∃ i : Fin 32, ((packOf [0, 31]).bytes.get i).isSome = true := ⟨31, by decide⟩

/-- Every page maps to Span frame 5 with every right, or to the last frame of Exchange Memory. -/
def onSpan : State := mapped 0xB8 5 State.reset
def onExchange : State := mapped 0xF8 7 State.reset

/-- ReadStreamFetchesTheCurrentUnit: a page that is not VALID (the reset map), and one that may be read. -/
theorem witness_readStream : State.reset.atHost.readyForCommand ∧ (State.reset.atHost.mapEntry 0).classify = .clean ∧
    (State.reset.atHost.mapEntry 0).valid = false ∧ onSpan.atHost.readyForCommand ∧
    (onSpan.atHost.mapEntry 0).classify = .clean ∧ (onSpan.atHost.mapEntry 0).valid = true ∧
    (onSpan.atHost.mapEntry 0).mayRead = true ∧ (onSpan.atHost.mapEntry 0).toExchange = false ∧
    onSpan.atHost.engine.queue.length < 8 := by
  have h0 : State.reset.atHost.mapEntry 0 = MapEntry.zero := by
    simp [State.mapEntry, State.atHost, State.reset, Vector.get_eq_getElem]
  have h : onSpan.atHost.mapEntry 0 = MapEntry.computed 0xB8 5 := mapped_entry _ _ _ _ rfl
  rw [h, h0]
  exact ⟨ready_of _ (by decide), MapEntry.zero_classify, rfl, ready_of _ (by decide), by simp, rfl, rfl, rfl, by decide⟩

/-- A state whose Outbound Queue holds a number of requests, the 8 of a full one or fewer. -/
def filled (n : Nat) (s : State) : State :=
  { s with engine := { s.engine with queue := List.replicate n (.tail
      { serial := 7, origin := .hostWrite, kind := .write, dest := .span 0x500#36, words := 1
        enables := [true, true, true, true], data := [1, 2, 3, 4], note := none, confirm := false, reread := false
        window := some (0, 0), abortRelease := false }) } }

/-- NopRunsThePrelude and ReadStreamFetchesTheCurrentUnit with the queue full, at a ready bridge and behind a pack. -/
theorem witness_queueFull : (filled 8 packing).atHost.running = true ∧ (filled 8 packing).atHost.power.asleep = false ∧
    (filled 8 packing).atHost.streams.staging = none ∧ (filled 8 packing).atHost.host.collected = none ∧
    (filled 8 packing).atHost.host.decoder = .writeStream ∧ (filled 8 packing).atHost.raised = [] ∧
    (filled 8 packing).atHost.streams.pack = some (packOf [31]) ∧
    ((filled 8 packing).atHost.mapEntry 0).classify = .clean ∧ ((filled 8 packing).atHost.mapEntry 0).valid = true ∧
    ((filled 8 packing).atHost.mapEntry 0).mayWrite = true ∧ ((filled 8 packing).atHost.mapEntry 0).mayRead = true ∧
    ((filled 8 packing).atHost.mapEntry 0).toExchange = false ∧ 8 ≤ (filled 8 packing).atHost.engine.queue.length ∧
    (filled 8 onSpan).atHost.readyForCommand ∧ 8 ≤ (filled 8 onSpan).atHost.engine.queue.length ∧
    (filled 7 onSpan).atHost.readyForCommand ∧ (filled 7 onSpan).atHost.engine.queue.length < 8 := by
  have h : (filled 8 packing).atHost.mapEntry 0 = MapEntry.computed 0xBC 5 := mapped_entry _ _ _ _ rfl
  rw [h]
  exact ⟨by decide, by decide, by decide, by decide, by decide, by decide, by decide, by simp, rfl, rfl, rfl, rfl,
    by decide, ready_of _ (by decide), by decide, ready_of _ (by decide), by decide⟩

/-- FetchLockRecordsItsTarget: a page without the rights, a Span page, and the last Exchange page, doubleword E0h. -/
theorem witness_fetchLock : State.reset.atHost.ilu.lock.state = .none ∧ onSpan.atHost.readyForCommand ∧
    (onSpan.atHost.mapEntry 0).mayLock = true ∧ (onSpan.atHost.mapEntry 0).mayRead = true ∧
    onExchange.atHost.readyForCommand ∧ (onExchange.atHost.mapEntry 0).toExchange = true ∧
    (onExchange.atHost.mapEntry 0).frame.toNat ≤ 7 ∧ (onExchange.atHost.mapEntry 0).classify = .clean ∧
    (0xE0#8 : DwIndex).toNat = 32 * 7 + 0 / 8 ∧ (packing.mapEntry 0).mayRead = true ∧
    ((mapped 0x90 5 State.reset).atHost.mapEntry 0).mayLock = false := by
  have h : onSpan.atHost.mapEntry 0 = MapEntry.computed 0xB8 5 := mapped_entry _ _ _ _ rfl
  have hx : onExchange.atHost.mapEntry 0 = MapEntry.computed 0xF8 7 := mapped_entry _ _ _ _ rfl
  have hp : packing.mapEntry 0 = MapEntry.computed 0xBC 5 := mapped_entry _ _ _ _ rfl
  have hn : (mapped 0x90 5 State.reset).atHost.mapEntry 0 = MapEntry.computed 0x90 5 := mapped_entry _ _ _ _ rfl
  rw [h, hx, hp, hn]
  exact ⟨rfl, ready_of _ (by decide), rfl, rfl, ready_of _ (by decide), rfl, by decide, by simp, rfl, rfl, rfl⟩

/-- A lock HELD on a Span doubleword. -/
def heldSpan : State :=
  { State.reset with ilu := { State.reset.ilu with lock := { State.reset.ilu.lock with
      state := .held, target := some (.span 0x500#36), hold := some { due := some 1 } } } }

theorem witness_heldLock : heldSpan.atHost.readyForCommand ∧ heldSpan.atHost.ilu.lock.state = .held ∧
    heldSpan.atHost.ilu.lock.target = some (.span 0x500#36) ∧ heldSpan.atHost.engine.queue.length < 8 ∧
    State.reset.atHost.ilu.lock.state ≠ .held := ⟨ready_of _ (by decide), by decide, by decide, by decide, by decide⟩

theorem witness_checkSupply : checkSupplyOn.atHost.readyForCommand ∧ checkSupplyOn.atHost.checkSupply = true ∧
    State.reset.atHost.checkSupply = false := ⟨ready_of _ (by decide), by decide, by decide⟩

/-- A request of the host for the tests. -/
def req (origin : Origin) (kind : Kind) (dest : Dest) (words : Nat) : Request :=
  { serial := 7, origin := origin, kind := kind, dest := dest, words := words, enables := [], data := [], note := none
    confirm := false, reread := true, window := some (0, 0), abortRelease := false }

/-- BusyDiscardsWrittenBytes. -/
def busy : State :=
  { State.reset with streams := { State.reset.streams with staging := some (req .hostWrite .write (.span 0) 1) } }

theorem witness_busy : busy.atHost.running = true ∧ busy.atHost.raised = [] ∧
    busy.atHost.streams.staging.isSome = true := by decide

/-- SleepIsEnteredFilteredAndLeft. -/
def sleeping : State := { State.reset with power := { State.reset.power with asleep := true } }

theorem witness_sleep : sleeping.atHost.running = true ∧ sleeping.atHost.power.asleep = true ∧
    sleeping.atHost.streams.staging = none ∧ sleeping.atHost.host.collecting = false ∧ sleeping.atHost.raised = [] ∧
    State.reset.atHost.started.streams.deferred = none ∧ (∀ t, State.reset.atHost.tag t = .free) ∧
    State.reset.atHost.ilu.table = [] ∧ heldSpan.atHost.ilu.lock.state ≠ .none := by decide

/-- SleepIsEnteredFilteredAndLeft: a ready bridge with an abandoned offer, and one with a deferred request. -/
theorem witness_sleepRefused :
    ({ State.reset with engine := { State.reset.engine with abandoned := true } } : State).atHost.readyForCommand ∧
    ({ State.reset with engine := { State.reset.engine with abandoned := true } } : State).atHost.engine.abandoned = true ∧
    ({ State.reset with streams := { State.reset.streams with deferred := some (req .hostFetch .read (.span 0) 8) } } :
      State).atHost.readyForCommand ∧
    ({ State.reset with streams := { State.reset.streams with deferred := some (req .hostFetch .read (.span 0) 8) } } :
      State).atHost.started.streams.deferred ≠ none :=
  ⟨ready_of _ (by decide), by decide, ready_of _ (by decide), by decide⟩

/-- A SET OFFSET collection that owes its parameter, a SET ADDRESS one that owes one more, and a lapsed one. -/
def collecting (c : Command) (owed : Nat) (ps : List Byte) (lapsed : Bool) : State :=
  { State.reset with host := { State.reset.host with
      decoder := .collecting, collected := some { command := c, owed := owed, params := ps, lapsed := lapsed } } }

theorem witness_parameter : (collecting .setOffset 1 [] false).atHost.running = true ∧
    (collecting .setOffset 1 [] false).atHost.streams.staging = none ∧
    (collecting .setOffset 1 [] false).atHost.raised = [] ∧
    (collecting .setOffset 1 [] false).atHost.host.collected =
      some { command := .setOffset, owed := 1, params := [], lapsed := false } ∧
    (collecting .setAddress 2 [] false).atHost.host.collected =
      some { command := .setAddress, owed := 2, params := [], lapsed := false } := by decide

theorem witness_cancel : (collecting .setAddress 1 [0x40] true).atHost.running = true ∧
    (collecting .setAddress 1 [0x40] true).atHost.power.asleep = false ∧
    (collecting .setAddress 1 [0x40] true).atHost.streams.staging = none ∧
    (collecting .setAddress 1 [0x40] true).atHost.streams.pack = none ∧
    (collecting .setAddress 1 [0x40] true).atHost.raised = [] ∧
    (collecting .setAddress 1 [0x40] true).atHost.host.decoder = .collecting ∧
    (collecting .setAddress 1 [0x40] true).atHost.host.collected =
      some { command := .setAddress, owed := 1, params := [0x40], lapsed := true } ∧
    (collecting .set 3 [] true).atHost.host.collected =
      some { command := .set, owed := 3, params := [], lapsed := true } := by decide

/-- DataBytesAreMergedAndStep: no open pack, and an open pack of the current block with room. -/
def streaming (pack : Option Pack) : State :=
  { State.reset with host := { State.reset.host with decoder := .writeStream }
                     streams := { State.reset.streams with pack := pack } }

theorem witness_dataByte : (streaming none).atHost.running = true ∧ (streaming none).atHost.streams.staging = none ∧
    (streaming none).atHost.raised = [] ∧ (streaming none).atHost.host.decoder = .writeStream ∧
    (streaming none).atHost.streams.pack = none ∧
    (streaming (some (packOf [0]))).atHost.streams.pack = some (packOf [0]) ∧
    (packOf [0]).page = (streaming (some (packOf [0]))).atHost.addr.pageCtr ∧
    (packOf [0]).block = blockOf (streaming (some (packOf [0]))).atHost.addr.offCtr ∧
    (∃ i : Fin 32, i ≠ positionOf 0 ∧ (packOf [0]).bytes.get i = none) := by decide

/-- WRITE STREAM on writable pages, with an open pack and the current offset in another block, or at the one position that
the pack lacks. -/
def streamingAt (offset : Byte) (ps : List Nat) : State :=
  mapped 0xBC 5 { streaming (some (packOf ps)) with addr := { State.reset.addr with offCtr := offset } }

/-- DataBytesAreMergedAndStep, the seals: of a pack of another block, and of a full pack. -/
theorem witness_dataByteSeals : (streamingAt 32 [0]).atHost.running = true ∧
    (streamingAt 32 [0]).atHost.streams.staging = none ∧ (streamingAt 32 [0]).atHost.raised = [] ∧
    (streamingAt 32 [0]).atHost.host.decoder = .writeStream ∧
    (streamingAt 32 [0]).atHost.streams.pack = some (packOf [0]) ∧
    ((streamingAt 32 [0]).atHost.mapEntry 0).classify = .clean ∧ ((streamingAt 32 [0]).atHost.mapEntry 0).valid = true ∧
    ((streamingAt 32 [0]).atHost.mapEntry 0).mayWrite = true ∧
    ((streamingAt 32 [0]).atHost.mapEntry 0).toExchange = false ∧ (streamingAt 32 [0]).atHost.engine.queue.length < 8 ∧
    (packOf [0]).block ≠ blockOf (streamingAt 32 [0]).atHost.addr.offCtr ∧
    (packOf (List.range 31)).page = (streamingAt 31 (List.range 31)).atHost.addr.pageCtr ∧
    (packOf (List.range 31)).block = blockOf (streamingAt 31 (List.range 31)).atHost.addr.offCtr ∧
    (∀ i : Fin 32, i ≠ positionOf 31 → ((packOf (List.range 31)).bytes.get i).isSome = true) := by
  have h : (streamingAt 32 [0]).atHost.mapEntry 0 = MapEntry.computed 0xBC 5 := mapped_entry _ _ _ _ rfl
  rw [h]
  exact ⟨by decide, by decide, by decide, by decide, by decide, by simp, rfl, rfl, rfl, by decide, by decide, by decide,
    by decide, by decide⟩

/-- DataReadsAreServed: a report with its last byte left, one read to its end, and a VALID unit opened. -/
def reportAt (n : Nat) : State :=
  { State.reset with host := { State.reset.host with decoder := .report, reportLength := 16, reportPointer := n } }
def reading (st : BufferState) : State :=
  { State.reset with
    host := { State.reset.host with decoder := .readStream }
    streams := { State.reset.streams with current := { state := st, page := 0, first := 0, opened := true } } }

theorem witness_dataRead : (reportAt 15).atHost.running = true ∧ (reportAt 15).atHost.raised = [] ∧
    (reportAt 15).atHost.host.decoder = .report ∧ (reportAt 15).atHost.host.reportPointer = 15 ∧
    15 < (reportAt 15).atHost.host.reportLength ∧
    (reportAt 16).atHost.host.reportLength ≤ (reportAt 16).atHost.host.reportPointer ∧
    (reading (.valid [1])).atHost.host.decoder = .readStream ∧
    (reading (.valid [1])).atHost.streams.current.state = .valid [1] ∧
    (reading (.valid [1])).atHost.streams.current.opened = true ∧
    blockOf (reading (.valid [1])).atHost.addr.stepMajor.offCtr = blockOf (reading (.valid [1])).atHost.addr.offCtr ∧
    (reading (.fetching 3)).atHost.streams.current.state = .fetching 3 ∧
    (reading .empty).atHost.streams.current.state = .empty := by decide

/-- READ STREAM at an offset, with a unit not read yet and pages with the given flags. -/
def unopened (flags offset : Byte) (pageMajor : Bool) : State :=
  mapped flags 5
    { State.reset with
      host := { State.reset.host with decoder := .readStream }
      addr := { State.reset.addr with offCtr := offset, pageMajor := pageMajor }
      streams := { State.reset.streams with
        current := { state := .valid [1], page := 0, first := 0, opened := false } } }

/-- READ STREAM at the last offset of a FAILED unit, with a look-ahead buffer in the given state. -/
def atUnitEnd (ahead : BufferState) : State :=
  mapped 0xBA 5
    { reading .failed with
      addr := { State.reset.addr with offCtr := 31 }
      streams := { (reading .failed).streams with ahead := { state := ahead, page := 0, first := 32, opened := false } } }

/-- DataReadsAreServed, the moves: a FAILED unit, its last byte with a look-ahead buffer in use and with an EMPTY one; the
look-ahead from a page with PREFETCH and from one without, in both major axes and at both ends of a unit. -/
theorem witness_dataReadMoves : (reading .failed).atHost.streams.current.state = .failed ∧
    (atUnitEnd .empty).atHost.running = true ∧ (atUnitEnd .empty).atHost.raised = [] ∧
    (atUnitEnd .empty).atHost.host.decoder = .readStream ∧ (atUnitEnd .empty).atHost.streams.current.state = .failed ∧
    blockOf (atUnitEnd .empty).atHost.addr.stepMajor.offCtr ≠ blockOf (atUnitEnd .empty).atHost.addr.offCtr ∧
    (atUnitEnd .empty).atHost.streams.ahead.state = .empty ∧ (atUnitEnd .failed).atHost.streams.ahead.state ≠ .empty ∧
    ((atUnitEnd .empty).atHost.mapEntry 0).classify = .clean ∧ ((atUnitEnd .empty).atHost.mapEntry 0).valid = true ∧
    ((atUnitEnd .empty).atHost.mapEntry 0).mayRead = true ∧
    ((atUnitEnd .empty).atHost.mapEntry 0).toExchange = false ∧ (atUnitEnd .empty).atHost.engine.queue.length < 8 ∧
    (unopened 0xBA 0 false).atHost.running = true ∧ (unopened 0xBA 0 false).atHost.raised = [] ∧
    (unopened 0xBA 0 false).atHost.host.decoder = .readStream ∧ (unopened 0xBA 0 false).atHost.streams.staging = none ∧
    (unopened 0xBA 0 false).atHost.streams.current.state = .valid [1] ∧
    (unopened 0xBA 0 false).atHost.streams.current.opened = false ∧
    (unopened 0xBA 0 false).atHost.streams.ahead.state = .empty ∧
    ((unopened 0xBA 0 false).atHost.mapEntry 0).prefetch = true ∧
    ((unopened 0xB8 0 false).atHost.mapEntry 0).prefetch = false ∧
    blockOf (unopened 0xBA 0 false).atHost.addr.stepMajor.offCtr = blockOf (unopened 0xBA 0 false).atHost.addr.offCtr ∧
    blockOf (unopened 0xBA 31 false).atHost.addr.stepMajor.offCtr ≠ blockOf (unopened 0xBA 31 false).atHost.addr.offCtr ∧
    (unopened 0xBA 0 true).atHost.addr.pageCtr ≠ (unopened 0xBA 0 true).atHost.addr.high ∧
    (unopened 0xBA 0 true).atHost.addr.stepMajor.pageCtr ≠ (unopened 0xBA 0 true).atHost.addr.pageCtr := by
  have h1 : (atUnitEnd .empty).atHost.mapEntry 0 = MapEntry.computed 0xBA 5 := mapped_entry _ _ _ _ rfl
  have h2 : (unopened 0xBA 0 false).atHost.mapEntry 0 = MapEntry.computed 0xBA 5 := mapped_entry _ _ _ _ rfl
  have h3 : (unopened 0xB8 0 false).atHost.mapEntry 0 = MapEntry.computed 0xB8 5 := mapped_entry _ _ _ _ rfl
  rw [h1, h2, h3]
  exact ⟨by decide, by decide, by decide, by decide, by decide, by decide, by decide, by decide, by simp, rfl, rfl, rfl,
    by decide, by decide, by decide, by decide, by decide, by decide, by decide, by decide, rfl, rfl, by decide,
    by decide, by decide, by decide⟩

/-- DrainsCompleteWhenNothingIsLeft: a step in its pass with nothing left to do. -/
def inPass : State := { State.reset with sched := { State.reset.sched with phase := .pass } }

theorem witness_drainComplete : inPass.running = true ∧ inPass.sched.phase = .pass ∧ inPass.raised = [] ∧
    inPass.passNext = none := by decide

/-- MAP READ of a MENDED and of a SPOILED entry exists by the statement about upsets; of a CLEAN one here. -/
theorem witness_mapRead : (State.reset.atHost.mapEntry 0xFF).classify = .clean := by
  have h0 : State.reset.atHost.mapEntry 0xFF = MapEntry.zero := by
    simp [State.mapEntry, State.atHost, State.reset, Vector.get_eq_getElem]
  rw [h0]; exact MapEntry.zero_classify

/-- FaultAndSummaryReports: an empty record (reset), a fault of an outbound write with its window fields and no peer (R83), a
node's expired lock with its peer and no window fields (R108), and a host port fault with no field (R1). -/
def aDenial : FaultRecord := (req .hostWrite .write (.span 0x500#36) 1).fault .denied (some 3)
def captured (f : FaultRecord) : State := { State.reset with log := State.reset.log.log f }

theorem witness_fault : State.reset.atHost.log.capture = none ∧
    ∀ f ∈ [aDenial, lockExpired 9 1 0x7F8, hostFault .protocol],
      (captured f).atHost.readyForCommand ∧ (captured f).atHost.log.capture = some f := by
  refine ⟨by decide, ?_⟩
  intro f hf
  simp only [List.mem_cons, List.not_mem_nil, or_false] at hf
  rcases hf with rfl | rfl | rfl <;> exact ⟨ready_of _ (by decide), by decide⟩

/-- NoticesAreTakenByLevel: records of two levels, and a taken slot. -/
def rec_ (level : Level) (code : NoticeCode) : NoticeRecord :=
  { body := .notice code, level := level, source := 4, sequence := 0 }
def noticed : State :=
  { State.reset with notices := { State.reset.notices with
      queue := [rec_ 1 0, rec_ 3 1, rec_ 3 2], taken := some (rec_ 2 9) } }

theorem witness_notices : State.reset.atHost.notices.queue = [] ∧ noticed.atHost.readyForCommand ∧
    noticed.atHost.notices.queue = [rec_ 1 0] ++ rec_ 3 1 :: [rec_ 3 2] ∧
    (∀ q ∈ [rec_ 1 0], q.level < (rec_ 3 1).level) ∧ (∀ q ∈ [rec_ 3 2], q.level ≤ (rec_ 3 1).level) ∧
    noticed.atHost.notices.taken = some (rec_ 2 9) ∧ State.reset.atHost.notices.taken = none :=
  ⟨by decide, ready_of _ (by decide), by decide, by decide, by decide, by decide, by decide⟩

/-- SleepIsEnteredFilteredAndLeft: asleep, with records queued and with none. -/
def sleepingNoticed : State := { noticed with power := { State.reset.power with asleep := true } }

theorem witness_sleepingNotices : sleepingNoticed.atHost.running = true ∧ sleepingNoticed.atHost.power.asleep = true ∧
    sleepingNoticed.atHost.streams.pack = none ∧ sleepingNoticed.atHost.host.collected = none ∧
    sleepingNoticed.atHost.host.decoder ≠ .collecting ∧ sleepingNoticed.atHost.raised = [] ∧
    sleepingNoticed.atHost.notices.queue = [rec_ 1 0] ++ rec_ 3 1 :: [rec_ 3 2] ∧ (rec_ 3 1).body = .notice 1 ∧
    sleeping.atHost.notices.queue = [] := by decide

/-- BatchesAreLoggedInOrder: two faults, of which the hard one comes first. -/
def twoFaults : State :=
  { State.reset with raised := [bareFault .mapMended .map, bareFault .mapRights .map] }

theorem witness_batch : twoFaults.running = true ∧ bareFault .mapRights .map ∈ twoFaults.raised ∧
    twoFaults.log.capture = none ∧
    (∀ g ∈ twoFaults.raised, ((bareFault .mapRights .map).code.hard = true ∨ g.code.hard = false) ∧
      ((bareFault .mapRights .map).code.hard = g.code.hard →
        (bareFault .mapRights .map).code.number < g.code.number ∨ g = bareFault .mapRights .map)) ∧
    (captured aDenial).log.capture = some aDenial ∧ aDenial.code.hard = true := by decide

/-- BatchesAreLoggedInOrder: a captured soft fault beside a hard one, and beside a soft one alone. -/
theorem witness_batchReplaces :
    ({ captured (bareFault .mapMended .map) with raised := [bareFault .mapRights .map] } : State).log.capture =
      some (bareFault .mapMended .map) ∧ (bareFault .mapMended .map).code.hard = false ∧
    (bareFault .mapRights .map).code.hard = true ∧
    (∀ f ∈ [hostFault .cmdUnknown], f.code.hard = false) ∧
    ({ captured (bareFault .mapMended .map) with raised := [bareFault .mapRights .map] } : State).running = true := by
  decide

/-- A tag bound to a request. -/
def bound (r : Request) (awaiting : Bool) (expected : Nat) : BusyTag :=
  { req := r, awaiting := awaiting, expected := expected, received := [], worst := .good
    data := List.replicate (4 * r.words) 0, rereadUsed := false, abortRelease := false
    response := some { due := some 1 }, window := .fresh }

/-- A state with tag 0 BUSY. -/
def tagged (b : BusyTag) : State :=
  { State.reset with engine := { State.reset.engine with tags := State.reset.engine.tags.set 0 (.busy b) } }

/-- The send point with a request offering at tag 0. -/
def sending (r : Request) (offer : OfferState) (outstanding : Option Offered) (b : BusyTag) (s : State) : State :=
  { s with engine := { s.engine with
      tags := s.engine.tags.set 0 (.busy b)
      sendPoint := some { req := r, tag := some 0, offer := offer, refused := false, window := .fresh }
      outstanding := outstanding } }

/-- A posted host write. -/
def aWrite : Request := req .hostWrite .write (.span 0x500#36) 1

/-- AbortDiscardsAndReleases. -/
def aborting : State :=
  { sending aWrite .eligible none (bound aWrite false 0) heldSpan with
    host := { State.reset.host with decoder := .writeStream }
    streams := { State.reset.streams with pack := some (packOf [0]) } }

theorem witness_abort : aborting.atHost.running = true ∧ aborting.atHost.power.asleep = false ∧
    aborting.atHost.host.decoder = .writeStream ∧ aborting.atHost.host.collected = none ∧ aborting.atHost.raised = [] ∧
    aborting.atHost.streams.pack = some (packOf [0]) ∧ aborting.atHost.ilu.lock.state = .held ∧
    aborting.atHost.ilu.lock.target = some (.span 0x500#36) ∧ aborting.atHost.engine.abandoned = false ∧
    aborting.atHost.engine.outstanding = none ∧ aborting.atHost.tag 0 = .busy (bound aWrite false 0) ∧
    (bound aWrite false 0).awaiting = false ∧ aWrite.abortRelease = false ∧ aWrite.kind = .write ∧
    (∀ u : Tag, u ≠ 0 → aborting.atHost.tag u = .free) := by decide

/-- A host lock fetch of a Span doubleword. -/
def aFetch : Request := req .lockFetch .lockRead (.span 0x500#36) 2

/-- A beat for tag 0 of node 0. -/
def beat0 (status : BeatStatus) : BeatPacket :=
  { beat := { requester := 0, tag := 0, number := 0, status := status, word0 := 1, word1 := 2 }, valueOk := true }

/-- AbortTreatsAwaitingTags. -/
theorem witness_abortTags : (tagged (bound aFetch true 1)).atHost.readyForCommand ∧
    (tagged (bound aFetch true 1)).atHost.tag 0 = .busy (bound aFetch true 1) ∧
    (tagged (bound aFetch true 1)).atHost.engine.sendPoint = none ∧
    ((tagged { bound aFetch true 1 with abortRelease := true }).enter .packets).running = true ∧
    ((tagged { bound aFetch true 1 with abortRelease := true }).enter .packets).raised = [] ∧
    ((tagged { bound aFetch true 1 with abortRelease := true }).enter .packets).pins.spanReset = false ∧
    ((tagged { bound aFetch true 1 with abortRelease := true }).enter .packets).tag 0 =
      .busy { bound aFetch true 1 with abortRelease := true } :=
  ⟨ready_of _ (by decide), by decide, by decide, by decide, by decide, by decide, by decide⟩

theorem witness_restart : State.reset.atHost.running = true ∧ State.reset.atHost.raised = [] ∧
    State.reset.atHost.streams.staging = none ∧ State.reset.atHost.host.collecting = false ∧
    State.reset.atHost.host.halfSeen = false ∧ (after .restartFirstByte State.reset).atHost.host.halfSeen = true ∧
    (after .restartFirstByte State.reset).atHost.raised = [] := by decide

/-- ResetsHoldTheBridge, InitializationSetsPowerOnValues and ResetAnswersFull. -/
theorem witness_resets : (after (.pinReset 3) State.reset).power.mode = .held .pin ∧
    (run [.pinReset 3, .resetEnd] State.reset).power.mode = .initializing .pin ∧
    (run [.powerOnReset 3, .resetEnd] State.reset).power.mode = .initializing .powerOn ∧
    (after (.pinReset 3) State.reset).running = false ∧ (after (.pinReset 3) State.reset).raised = [] := by decide

/-- SpanResetClearsTheSpanSide: with nothing to lose, and with a request at a tag. -/
theorem witness_spanReset : State.reset.pins.spanReset = false ∧ (State.reset.enter .spanLine).running = true ∧
    (State.reset.enter .spanLine).raised = [] ∧ (State.reset.enter .spanLine).engine.queue = [] ∧
    (∀ t : Tag, (State.reset.enter .spanLine).tag t = .free) ∧
    ((tagged (bound aFetch true 1)).enter .spanLine).tag 0 = .busy (bound aFetch true 1) ∧
    aFetch.origin ≠ .noticeSend ∧ aFetch.origin ≠ .recallSend ∧
    (after .spanResetAssertion State.reset).pins.spanReset = true := by decide

/-- ClaimIsDrivenAfterTheWait. -/
def claimWaits : State :=
  { State.reset with ilu := { State.reset.ilu with claim := { State.reset.ilu.claim with waiting := true } } }

theorem witness_claim : State.reset.pins.claimOthers ≠ true ∧ (claimWaits.enter .exam).running = true ∧
    (claimWaits.enter .exam).ilu.claim.waiting = true ∧ (claimWaits.enter .exam).ilu.claim.driving = false ∧
    (claimWaits.enter .exam).pins.claimOthers = false := by decide

/-- An owed beat. -/
def owed (entry : Nat) : OwedBeat :=
  { beat := (beat0 .good).beat, entry := entry, kind := .read, address := 0 }

/-- Owed beats and queued reports. -/
def owing (beats : List OwedBeat) (reports : List ReportEntry) (outstanding : Option Offered) : State :=
  { State.reset with
    inbound := { State.reset.inbound with beats := beats }
    engine := { State.reset.engine with reports := reports, outstanding := outstanding } }

/-- A report to send. -/
def aReport : ReportEntry := { dest := 2, faultCode := 0x16, address := 8 }

/-- SendTurnsFollowThePriority. -/
theorem witness_sendTurn : ((owing [owed 1] [] none).enter .between).running = true ∧
    ((owing [owed 1] [] none).enter .between).engine.outstanding = none ∧
    ((owing [owed 1] [] none).enter .between).inbound.beats = [owed 1] ∧
    ((owing [owed 1] [] none).enter .between).inbound.head = .fresh ∧
    ((owing [] [aReport] none).enter .between).engine.reports = [aReport] ∧
    ((owing [] [aReport] none).enter .between).engine.reportHead = .fresh ∧
    ((sending aWrite .eligible none (bound aWrite false 0) State.reset).enter .between).engine.sendPoint =
      some { req := aWrite, tag := some 0, offer := .eligible, refused := false, window := .fresh } ∧
    ((sending aWrite .eligible none (bound aWrite false 0) State.reset).enter .between).inbound.beats = [] := by decide

/-- MemoryRequestsAreDecidedInOrder, NoticesJoinTheQueue, RecallsWithdrawOneNotice. -/
theorem witness_packets : (openAperture.enter .packets).running = true ∧ (openAperture.enter .packets).raised = [] ∧
    (openAperture.enter .packets).pins.spanReset = false ∧ (notice 3 1).valueOk = true ∧ (notice 3 1).level ≤ 3 ∧
    (notice 3 1).destination = (openAperture.enter .packets).power.node ∧
    ((State.reset.enter .packets).setting 7).getLsbD 4 = true ∧
    (({ State.reset with settings := State.reset.settings.set 7 0 } : State).setting 7).getLsbD 4 = false ∧
    (noticed.enter .packets).notices.queue = [rec_ 1 0] ++ rec_ 3 1 :: [rec_ 3 2] ∧
    (rec_ 3 1).body = .notice 1 ∧ (rec_ 3 1).level.toNat = 3 ∧ (rec_ 3 1).source = (notice 3 1).source ∧
    (noticed.enter .packets).notices.taken = some (rec_ 2 9) := by decide

/-- Packets while SPAN-RESET is asserted: the memory requests, notices, recalls, fault reports and beats of four statements. -/
theorem witness_spanResetAsserted :
    ({ State.reset with pins := { State.reset.pins with spanReset := true } } : State).atHost.running = true ∧
    (({ State.reset with pins := { State.reset.pins with spanReset := true } } : State).enter .packets).running = true ∧
    (({ State.reset with pins := { State.reset.pins with spanReset := true } } : State).enter .packets).raised = [] ∧
    (({ State.reset with pins := { State.reset.pins with spanReset := true } } : State).enter .packets).pins.spanReset =
      true := by decide

/-- A host fetch of 2 words into the current buffer. -/
def aRead : Request := req .hostFetch .read (.span 0x500#36) 2

/-- BeatsAreScored: a stray, a repeated confirmation, and the last beat of a READ. -/
def fetching : State :=
  { tagged (bound aRead true 1) with
    streams := { State.reset.streams with current := { state := .fetching 7, page := 0, first := 0, opened := false } } }

theorem witness_beats : (State.reset.enter .packets).tag 0 = .free ∧ (beat0 .good).valueOk = true ∧
    (beat0 .good).beat.requester = (State.reset.enter .packets).power.node ∧
    ((tagged { bound aWrite true 1 with received := [0] }).enter .packets).tag 0 =
      .busy { bound aWrite true 1 with received := [0] } ∧
    (fetching.enter .packets).tag 0 = .busy (bound aRead true 1) ∧ (bound aRead true 1).data.length = 8 ∧
    (fetching.enter .packets).streams.current.state = .fetching 7 ∧ (fetching.enter .packets).raised = [] ∧
    (fetching.enter .packets).running = true ∧ (fetching.enter .packets).pins.spanReset = false := by decide

/-- HeldBeatsReofferTheFetch, with the retry window running and expired; ASSERT is off. -/
def lockFetching (b : BusyTag) : State :=
  { tagged b with
    settings := State.reset.settings.set 4 0
    ilu := { State.reset.ilu with lock := { State.reset.ilu.lock with
      state := .fetching, target := some (.span 0x500#36), current := some 7 } } }

theorem witness_held : ((lockFetching (bound aFetch true 1)).enter .packets).running = true ∧
    ((lockFetching (bound aFetch true 1)).enter .packets).raised = [] ∧
    ((lockFetching (bound aFetch true 1)).enter .packets).tag 0 = .busy (bound aFetch true 1) ∧
    ((lockFetching (bound aFetch true 1)).enter .packets).ilu.lock.state = .fetching ∧
    ((lockFetching (bound aFetch true 1)).enter .packets).ilu.lock.current = some aFetch.serial ∧
    ((lockFetching (bound aFetch true 1)).enter .packets).claimAssert = false ∧
    (bound aFetch true 1).window.expired = false ∧
    ((lockFetching { bound aFetch true 1 with window := { timer := none, expired := true } }).enter .packets).tag 0 =
      .busy { bound aFetch true 1 with window := { timer := none, expired := true } } := by decide

/-- A store of the host lock to its Span doubleword. -/
def aStore : Request := req .lockStore .unlockWrite (.span 0x500#36) 2

/-- BeatsAreScored: the granting beat of the current fetch, and the confirmation of the current store. -/
theorem witness_lockBeats : (bound aFetch true 1).worst = .good ∧ (bound aFetch true 1).abortRelease = false ∧
    (bound aFetch true 1).data.length = 8 ∧ aFetch.kind = .lockRead ∧ aFetch.origin = .lockFetch ∧
    ((lockFetching (bound aFetch true 1)).enter .packets).pins.spanReset = false ∧
    ((lockFetching (bound aStore true 1)).enter .packets).tag 0 = .busy (bound aStore true 1) ∧
    aStore.kind = .unlockWrite ∧ aStore.origin = .lockStore ∧
    ((lockFetching (bound aStore true 1)).enter .packets).ilu.lock.current = some aStore.serial := by decide

/-- HeldBeatsReofferTheFetch, the assertion test: ASSERT on with a limit of 0, 1 or 2, on a free and on an asserted line. -/
def asserting (setting : BitVec 16) (line : Bool) : State :=
  { lockFetching (bound aFetch true 1) with
    settings := State.reset.settings.set 4 setting, pins := { State.reset.pins with claimOthers := line } }

theorem witness_assertion :
    (∀ line, ((asserting 0x0011 line).enter .packets).running = true ∧
      ((asserting 0x0011 line).enter .packets).claimAssert = true ∧
      ((asserting 0x0011 line).enter .packets).pins.claimOthers = line ∧
      ((asserting 0x0011 line).enter .packets).tag 0 = .busy (bound aFetch true 1)) ∧
    ((asserting 0x0011 false).enter .packets).ilu.claim.driving = false ∧
    ((asserting 0x0001 false).countHeld 7).ilu.claim.driving = true ∧
    ((asserting 0x0011 true).countHeld 7).ilu.claim.waiting = true ∧
    ((asserting 0x0021 false).countHeld 7).ilu.claim.driving = false := by decide

/-- ReceiptsSettleTheSendPoint: a posted store of the host lock. -/
theorem witness_storeReceipt :
    ((sending aStore .outstanding (some .sendPoint) (bound aStore false 0)
      (lockFetching (bound aStore false 0))).enter .packets).running = true ∧
    ((sending aStore .outstanding (some .sendPoint) (bound aStore false 0)
      (lockFetching (bound aStore false 0))).enter .packets).engine.outstanding = some .sendPoint ∧
    ((sending aStore .outstanding (some .sendPoint) (bound aStore false 0)
      (lockFetching (bound aStore false 0))).enter .packets).ilu.lock.current = some aStore.serial ∧
    aStore.confirm = false := by decide

/-- ReceiptsSettleTheSendPoint: a posted write and a READ. -/
theorem witness_receipt :
    ((sending aWrite .outstanding (some .sendPoint) (bound aWrite false 0) State.reset).enter .packets).running = true ∧
    ((sending aWrite .outstanding (some .sendPoint) (bound aWrite false 0) State.reset).enter .packets).raised = [] ∧
    ((sending aWrite .outstanding (some .sendPoint) (bound aWrite false 0) State.reset).enter .packets).engine.outstanding =
      some .sendPoint ∧
    ((sending aWrite .outstanding (some .sendPoint) (bound aWrite false 0) State.reset).enter .packets).engine.abandoned =
      false ∧
    ((sending aRead .outstanding (some .sendPoint) (bound aRead false 1) State.reset).enter .packets).tag 0 =
      .busy (bound aRead false 1) ∧ (bound aRead false 1).req = aRead := by decide

/-- OtherReceiptsSettleTheirOffers. -/
theorem witness_receipts :
    ((owing [] [aReport] (some .report)).enter .packets).engine.reports = [aReport] ∧
    ((owing [] [aReport] (some .report)).enter .packets).engine.outstanding = some .report ∧
    ((owing [] [aReport] (some .report)).enter .packets).engine.reportHead.window.expired = false ∧
    ((owing [owed 1, owed 2] [] (some .beat)).enter .packets).inbound.beats = [owed 1, owed 2] ∧
    (∀ y ∈ [owed 2], y.entry ≠ (owed 1).entry) ∧
    ((owing [] [] (some .orphaned)).enter .packets).engine.outstanding = some .orphaned ∧
    (({ tagged (bound aFetch false 1) with engine := { (tagged (bound aFetch false 1)).engine with
        outstanding := some .sendPoint, abandoned := true, abandonedTag := some 0 } } : State).enter .packets).tag 0 =
      .busy (bound aFetch false 1) := by decide

/-- TagTimersExpire: a quarantine, a READ that may be re-sent, a write, and an abandoned LOCK-READ. -/
theorem witness_tagTimers :
    (({ State.reset with engine := { State.reset.engine with
        tags := State.reset.engine.tags.set 3 (.quarantine { due := some 1 }) } } : State).enter .timers).nextExpiry =
      some (.quarantine 3) ∧
    ((tagged (bound aRead true 1)).enter .timers).nextExpiry = some (.response 0) ∧
    ((tagged (bound aWrite true 1)).enter .timers).nextExpiry = some (.response 0) ∧
    ((tagged { bound aFetch true 1 with abortRelease := true }).enter .timers).nextExpiry = some (.response 0) ∧
    ((tagged (bound aRead true 1)).enter .timers).running = true := by decide

/-- A window due at the next tick boundary. -/
def dueWindow : RetryWindow := { timer := some { due := some 1 }, expired := false }

/-- A queued lock fetch. -/
def queuedFetch : QueueEntry := { QueueEntry.atFront aFetch with window := dueWindow, waitTick := true }

/-- A send point whose window is due. -/
def dueSend : SendPoint := { req := aWrite, tag := some 0, offer := .waiting, refused := true, window := dueWindow }

/-- A kept fetch whose window is due. -/
def dueKept : KeptFetch := { req := aFetch, ready := false, window := { due := some 1 } }

/-- RetryWindowsExpire, one state for each block. -/
theorem witness_retries :
    (({ State.reset with engine := { State.reset.engine with sendPoint := some dueSend } } : State).enter
      .timers).nextExpiry = some .sendPoint ∧
    (({ lockFetching (bound aFetch true 1) with engine := { State.reset.engine with queue := [queuedFetch] } } :
      State).enter .timers).nextExpiry = some .lockFetch ∧
    timerDue queuedFetch.window.timer 1 = true ∧
    (({ State.reset with engine := { State.reset.engine with
        reports := [aReport], reportHead := { offer := .waiting, window := dueWindow } } } : State).enter
      .timers).nextExpiry = some .report ∧
    (({ State.reset with inbound := { State.reset.inbound with
        beats := [owed 1, owed 1], head := { offer := .outstanding, window := dueWindow } } } : State).enter
      .timers).nextExpiry = some .beat ∧
    (({ State.reset with ilu := { State.reset.ilu with kept := some dueKept } } : State).enter .timers).nextExpiry =
      some .kept := by decide

/-- HoldAndClaimTimersExpire. -/
theorem witness_holds :
    (({ State.reset with ilu := { State.reset.ilu with
        table := [{ index := 255, owner := .node 9 1 0x7F8 { due := some 1 } }] } } : State).enter .timers).nextExpiry =
      some (.nodeHold 255) ∧
    (heldSpan.enter .timers).nextExpiry = some .hostHold ∧ (heldSpan.enter .timers).engine.queue.length < 8 ∧
    (({ heldSpan with ilu := { heldSpan.ilu with lock := { heldSpan.ilu.lock with
        target := some (.exchange 255) } } } : State).enter .timers).nextExpiry = some .hostHold ∧
    (({ State.reset with ilu := { State.reset.ilu with
        claim := { State.reset.ilu.claim with driving := true, timer := some { due := some 1 } } } } : State).enter
      .timers).nextExpiry = some .claim := by decide

/-- A queue at the end of a step. -/
def queueing (q : List QueueEntry) : State := { State.reset with engine := { State.reset.engine with queue := q } }

/-- RequestsMoveAtTheEndOfAStep. -/
theorem witness_moves : (busy.enter .pass).running = true ∧
    (busy.enter .pass).streams.staging = some (req .hostWrite .write (.span 0) 1) ∧
    (busy.enter .pass).streams.deferred = none ∧ (busy.enter .pass).engine.queue.length < 8 ∧
    (({ State.reset with ilu := { State.reset.ilu with waiting := some aFetch } } : State).enter .pass).ilu.waiting =
      some aFetch ∧
    ((queueing [.tail { aRead with words := 8 }]).enter .pass).engine.queue = [.tail { aRead with words := 8 }] ∧
    ((queueing [.tail { aRead with words := 8 }]).enter .pass).tag 0 = .free ∧
    (∀ u : Tag, u < 0 → ((queueing []).enter .pass).tag u ≠ .free) := by decide

/-- RequestsMoveAtTheEndOfAStep at its boundaries: a staged and a deferred request with 6 and 7 queued, and a waiting lock
request with 7 and 8 queued. -/
def staging (n : Nat) : State :=
  { filled n State.reset with streams := { State.reset.streams with
      staging := some (req .hostWrite .write (.span 0) 1), deferred := some aRead } }
def waitingLock (n : Nat) : State := { filled n State.reset with ilu := { State.reset.ilu with waiting := some aFetch } }

theorem witness_stagedMoves :
    (∀ n ∈ [6, 7], ((staging n).enter .pass).running = true ∧ ((staging n).enter .pass).engine.queue.length = n ∧
      ((staging n).enter .pass).streams.staging = some (req .hostWrite .write (.span 0) 1) ∧
      ((staging n).enter .pass).streams.deferred = some aRead) ∧
    ∀ n ∈ [7, 8], ((waitingLock n).enter .pass).engine.queue.length = n ∧
      ((waitingLock n).enter .pass).streams.staging = none ∧
      ((waitingLock n).enter .pass).ilu.waiting = some aFetch := by decide

/-- RequestsMoveAtTheEndOfAStep: a lock fetch at the head with OBEY on and CLAIM driven by another node, and with OBEY off. -/
def obeying (setting : BitVec 16) : State :=
  { queueing [.tail aFetch] with
    settings := State.reset.settings.set 4 setting, pins := { State.reset.pins with claimOthers := true } }

theorem witness_obey : ((obeying 0x0002).enter .pass).running = true ∧
    ((obeying 0x0002).enter .pass).engine.queue = [.tail aFetch] ∧
    (((obeying 0x0002).enter .pass).setting 4).getLsbD 1 = true ∧
    ((obeying 0x0002).enter .pass).pins.claimOthers = true ∧ ((obeying 0x0002).enter .pass).ilu.claim.driving = false ∧
    (((obeying 0x0000).enter .pass).setting 4).getLsbD 1 = false ∧ ((obeying 0x0000).enter .pass).tag 0 = .free := by
  decide

/-- An inbound entry that waits for its grant. -/
def entry (k : MemoryKind) (words : Nat) : InboundEntry :=
  { serial := 1, kind := k, source := 9, tag := 2, address := 0x7F8, offset := 0x7F8, words := words, confirm := true
    enables := List.replicate 8 true, data := List.replicate 8 1, answering := false }

/-- A state with inbound entries, a queue and a lock table. -/
def granting (i : List InboundEntry) (q : List QueueEntry) (t : List LockEntry) : State :=
  { queueing q with
    inbound := { State.reset.inbound with queue := i }
    ilu := { State.reset.ilu with table := t, lock := { State.reset.ilu.lock with
      state := .fetching, target := some (.exchange 255), current := some 7 } } }

/-- A local write and a local lock fetch of the last doubleword. -/
def localWrite : Request := { req .hostWrite .write (.exchange (255#8 ++ 0#3)) 2 with enables := [true], data := [1] }
def localFetch : Request := req .lockFetch .lockRead (.exchange (255#8 ++ 0#3)) 2

/-- An Exchange fetch that is kept for retries, and ready again. -/
def aKept : KeptFetch := { req := localFetch, ready := true, window := { due := none } }
def keeping : State :=
  { State.reset with ilu := { State.reset.ilu with kept := some aKept, table := [{ index := 255, owner := .host }] } }

/-- LocalHeadsExecuteAtomically. -/
theorem witness_localHeads :
    ((granting [] [.tail localWrite] []).enter .pass).passNext = some (.grant (.head localWrite) 0) ∧
    ((granting [] [.tail localFetch] []).enter .pass).passNext = some (.grant (.head localFetch) 0) ∧
    findLock 255 ((granting [] [.tail localFetch] []).enter .pass).ilu.table = none ∧
    (findLock 255 ((granting [] [.tail localFetch] [{ index := 255, owner := .host }]).enter .pass).ilu.table).isSome =
      true ∧
    ((granting [] [.tail localFetch] []).enter .pass).ilu.lock.current = some localFetch.serial ∧
    (keeping.enter .pass).passNext = some (.grant (.kept aKept) 0) := by decide

/-- A local fetch and a local store. -/
def localRead : Request := req .hostFetch .read (.exchange (255#8 ++ 0#3)) 2
def localStore : Request :=
  { req .lockStore .unlockWrite (.exchange (255#8 ++ 0#3)) 2 with
    enables := List.replicate 8 true, data := List.replicate 8 1 }
def localFetching : State := { queueing [.tail localRead] with streams := fetching.streams }

/-- LocalHeadsExecuteAtomically: a local fetch for the current buffer, and a store that is the lock's current request. -/
theorem witness_localReadsAndStores : (localFetching.enter .pass).passNext = some (.grant (.head localRead) 0) ∧
    (localFetching.enter .pass).streams.current.state = .fetching localRead.serial ∧
    ((granting [] [.tail localStore] [{ index := 255, owner := .host }]).enter .pass).passNext =
      some (.grant (.head localStore) 0) ∧
    ((granting [] [.tail localStore] [{ index := 255, owner := .host }]).enter .pass).ilu.lock.current =
      some localStore.serial ∧ localStore.dest = .exchange (255#8 ++ 0#3) := by decide

/-- ArbiterFollowsItsTable: both requesters, at the counts 3 and 4. -/
theorem witness_arbiter :
    (granting [entry .read 1] [] []).inboundCandidate = some (entry .read 1) ∧
    (granting [entry .read 1] [] []).localCandidate = none ∧
    (granting [entry .read 1] [.tail localWrite] []).localCandidate = some (.head localWrite) ∧
    ({ granting [entry .read 1] [.tail localWrite] [] with xmm := { State.reset.xmm with run := 3 } } :
      State).xmm.run < 4 ∧
    (granting [] [.tail localWrite] []).inboundCandidate = none := by decide

/-- InboundReadsAndWritesAreGranted and InboundLocksAreGranted. -/
theorem witness_inbound :
    ((granting [entry .read 1] [] []).enter .pass).passNext = some (.grant (.inbound (entry .read 1)) 0) ∧
    ((granting [entry .read 4] [] []).enter .pass).passNext = some (.grant (.inbound (entry .read 4)) 0) ∧
    ((granting [entry .write 2] [] []).enter .pass).passNext = some (.grant (.inbound (entry .write 2)) 0) ∧
    ((granting [entry .lockRead 2] [] []).enter .pass).passNext = some (.grant (.inbound (entry .lockRead 2)) 0) ∧
    ((granting [entry .unlockWrite 2] [] []).enter .pass).passNext = some (.grant (.inbound (entry .unlockWrite 2)) 0) ∧
    findLock (entry .unlockWrite 2).dw [{ index := 255, owner := .node 9 0 0 { due := none } }] =
      some { index := (entry .unlockWrite 2).dw, owner := .node 9 0 0 { due := none } } ∧
    findLock (entry .unlockWrite 2).dw [{ index := 255, owner := .host }] =
      some { index := (entry .unlockWrite 2).dw, owner := .host } ∧
    (State.reset.enter .pass).reportsOn = true ∧
    (({ State.reset with settings := State.reset.settings.set 8 0 } : State).enter .pass).reportsOn = false := by decide

/-- InboundReadsAndWritesAreGranted at 2 and 8 words; InboundLocksAreGranted with another node's entry and with the report
queue full. -/
theorem witness_inboundBoundaries :
    ((granting [entry .read 2] [] []).enter .pass).passNext = some (.grant (.inbound (entry .read 2)) 0) ∧
    ((granting [entry .read 8] [] []).enter .pass).passNext = some (.grant (.inbound (entry .read 8)) 0) ∧
    findLock (entry .unlockWrite 2).dw [{ index := 255, owner := .node 8 0 0 { due := none } }] =
      some { index := (entry .unlockWrite 2).dw, owner := .node 8 0 0 { due := none } } ∧
    (8 : Node) ≠ (entry .unlockWrite 2).source ∧
    ((owing [] [aReport] none).enter .pass).engine.reports.length < 2 ∧
    ¬((owing [] [aReport, aReport] none).enter .pass).engine.reports.length < 2 := by decide

/-- The invariants are met by the reset state, which ResetIsSound says, and here part by part where it is short. -/
theorem witness_invariants : State.reset.addr.bounded ∧ tableSound State.reset.ilu.table ∧ State.reset.boundsSound ∧
    State.reset.batchSound := by
  refine ⟨?_, ?_, ?_, ?_⟩
  · unfold Addressing.bounded; decide
  · unfold tableSound; decide
  · unfold State.boundsSound; decide
  · exact .inl rfl

end Sys2Proof.Tests
end

section
/-! PROOF. What every step keeps of the Fault Log, the settings, the Host Port and the Notice Queue. -/

namespace Sys2Proof.Machine

/-! ### The Fault Log (R137, R138, R140) -/

/-- The codes 00h and 1Fh are no fault's (R137). -/
theorem FaultCode.number_bounds (c : FaultCode) : 1 ≤ c.number ∧ c.number ≤ 30 := by cases c <;> decide

/-- The capture record holds a hard fault once one has been logged (R140). -/
theorem FaultLog.log_hard (l : FaultLog) (f : FaultRecord) : (l.log f).hard = (l.hard || f.code.hard) := by
  cases hc : l.capture with
  | none => simp [FaultLog.log, FaultLog.hard, FaultLog.captureNext, hc]
  | some g => cases hf : f.code.hard <;> cases hg : g.code.hard <;>
      simp [FaultLog.log, FaultLog.hard, FaultLog.captureNext, hc, hf, hg]

/-- Logging a fault keeps the Fault Log sound. -/
theorem FaultLog.log_sound {l : FaultLog} (f : FaultRecord) (h : l.sound) : (l.log f).sound := by
  obtain ⟨hover, hlow, hhigh⟩ := h
  obtain ⟨hpos, hmax⟩ := f.code.number_bounds
  refine ⟨fun ho => ?_, ?_, ?_⟩
  · rw [FaultLog.log_hard]
    rcases Bool.or_eq_true_iff.mp ho with ho | ho
    · simp [hover ho]
    · simp_all
  · show (l.summary ||| BitVec.twoPow 32 f.code.number).getLsbD 0 = false
    rw [BitVec.getLsbD_or, hlow, BitVec.getLsbD_twoPow]
    simp; omega
  · show (l.summary ||| BitVec.twoPow 32 f.code.number).getLsbD 31 = false
    rw [BitVec.getLsbD_or, hhigh, BitVec.getLsbD_twoPow]
    simp; omega

/-- Logging faults one after another keeps the Fault Log sound. -/
theorem FaultLog.foldl_log_sound (fs : List FaultRecord) {l : FaultLog} (h : l.sound) :
    (fs.foldl FaultLog.log l).sound := by
  induction fs generalizing l with
  | nil => exact h
  | cons f fs ih => exact ih (FaultLog.log_sound f h)

/-- Logging a batch keeps the Fault Log sound. -/
theorem State.logBatch_log_sound {s : State} (h : s.log.sound) : s.logBatch.log.sound := by
  unfold State.logBatch
  split
  · exact FaultLog.foldl_log_sound _ h
  · exact h

/-! ### The Host Port (R3) -/

/-- Soundness is a matter of the decoder, the collection and the report's length and pointer. -/
theorem HostPort.sound.of_same {h k : HostPort} (hs : h.sound)
    (same : k.decoder = h.decoder ∧ k.collected = h.collected ∧ k.reportLength = h.reportLength ∧
      k.reportPointer = h.reportPointer) : k.sound := by
  obtain ⟨hd, hc, hl, hp⟩ := same
  unfold HostPort.sound
  rw [hd, hc, hl, hp]
  exact hs

/-- A Host Port without a collection, and not COLLECTING, is sound if its pointer and length are. -/
theorem HostPort.sound_of_no_collection {h : HostPort} (hc : h.collected = none) (hd : h.decoder ≠ .collecting)
    (hp : h.reportPointer ≤ h.reportLength) (hl : h.reportLength ≤ 16) : h.sound :=
  ⟨⟨hp, hl⟩, by simp [hc, hd], by simp [hc]⟩

/-- A sound Host Port in another state than COLLECTING has no collection. -/
theorem HostPort.sound.collected_none {h : HostPort} (hs : h.sound) (hd : h.decoder ≠ .collecting) :
    h.collected = none := by
  obtain ⟨-, hiff, -⟩ := hs
  exact Option.not_isSome_iff_eq_none.mp fun hc => hd (hiff.mpr hc)

/-- Loading a report of at most 16 bytes where no collection is in progress (R18). -/
theorem HostPort.load_sound {h : HostPort} (hc : h.collected = none) (bytes : List Byte) (hl : bytes.length ≤ 16) :
    (h.load bytes).sound :=
  HostPort.sound_of_no_collection hc (by simp [HostPort.load]) (Nat.zero_le _) hl

/-- Lapsing a collection keeps what it owes (R2). -/
theorem HostPort.lapse_sound {h : HostPort} (hs : h.sound) : h.lapse.sound := by
  obtain ⟨hr, hiff, howed⟩ := hs
  refine ⟨hr, by simpa [HostPort.lapse] using hiff, ?_⟩
  intro c hc
  obtain ⟨d, hd, rfl⟩ := Option.map_eq_some_iff.mp hc
  exact howed d hd

/-- No command owes more than 9 parameters (R4). -/
theorem owed_le_nine (c : Command) (supply : Bool) : c.owed supply ≤ 9 := by
  cases c <;> cases supply <;> decide

/-! ### The Notice Queue (R125 to R130) -/

/-- Records that leave the queue leave it sound. -/
theorem Notices.sound.of_sublist {n m : Notices} (h : n.sound) (hq : m.queue.Sublist n.queue)
    (hw : m.withdrawn = true → m.taken.any NoticeRecord.isNotice = true) : m.sound := by
  obtain ⟨hlen, hcount, -⟩ := h
  exact ⟨hq.length_le.trans hlen, (hq.countP_le).trans hcount, hw⟩

/-- TAKE NOTICE (R130). -/
theorem Notices.take_sound {n : Notices} (h : n.sound) : n.take.sound :=
  h.of_sublist List.eraseP_sublist (by simp [Notices.take])

/-- What a RECALL names is a NOTICE (R129). -/
theorem NoticeRecord.isNotice_of_recalledBy {r : NoticeRecord} {p : NoticePacket} (h : r.recalledBy p = true) :
    r.isNotice = true := by
  have hb : r.body = .notice p.code := by simp_all [NoticeRecord.recalledBy]
  simp [NoticeRecord.isNotice, hb]

/-- A RECALL (R129). -/
theorem Notices.recall_sound {n : Notices} (p : NoticePacket) (h : n.sound) : (n.recall p).sound := by
  unfold Notices.recall
  split
  · exact h.of_sublist List.eraseP_sublist h.2.2
  · cases htaken : n.taken with
    | none => simpa using h
    | some r =>
      split
      next hmatch =>
        have hr : r.isNotice = true := NoticeRecord.isNotice_of_recalledBy (by simpa using hmatch)
        exact h.of_sublist (List.Sublist.refl _) fun _ => by simp [hr]
      · exact h

/-- A record that finds room in the queue (R127, R128). -/
theorem State.queueRecord_notices_sound {s : State} {body : NoticeBody} {level : Level} {source : Node}
    (h : s.notices.sound) (hlen : s.notices.queue.length < 16)
    (hcount : (∃ c, body = .notice c) → s.notices.queue.countP NoticeRecord.isNotice < 14) :
    (s.queueRecord body level source).notices.sound := by
  obtain ⟨-, hle, hw⟩ := h
  refine ⟨?_, ?_, hw⟩
  · simp only [State.queueRecord, List.length_append, List.length_singleton]; omega
  · cases body with
    | notice c =>
      have := hcount ⟨c, rfl⟩
      simp only [State.queueRecord, List.countP_append, List.countP_singleton]
      split <;> omega
    | faultReport c a => simpa [State.queueRecord, List.countP_append, NoticeRecord.isNotice] using hle

/-! ### The four together -/

/-- The Fault Log, the settings, the Host Port and the Notice Queue are as the manual allows. -/
structure State.PortSound (s : State) : Prop where
  log : s.log.sound
  settings : s.settingsSound
  host : s.host.sound
  notices : s.notices.sound

/-- Soundness of the settings is a matter of that field. -/
theorem State.settingsSound_congr {s t : State} (h : t.settings = s.settings) (hs : s.settingsSound) :
    t.settingsSound := by
  unfold State.settingsSound State.setting
  rw [h]
  exact hs

/-- What leaves the four fields alone keeps them sound. -/
theorem State.PortSound.of_same {s t : State} (h : s.PortSound)
    (same : t.log = s.log ∧ t.settings = s.settings ∧ t.host = s.host ∧ t.notices = s.notices) : t.PortSound := by
  obtain ⟨hl, hs, hh, hn⟩ := same
  exact { log := hl ▸ h.log, settings := State.settingsSound_congr hs h.settings, host := hh ▸ h.host
          notices := hn ▸ h.notices }

/-- What changes the Host Port alone of the four. -/
theorem State.PortSound.of_host {s t : State} (h : s.PortSound) (hh : t.host.sound)
    (same : t.log = s.log ∧ t.settings = s.settings ∧ t.notices = s.notices) : t.PortSound := by
  obtain ⟨hl, hs, hn⟩ := same
  exact { log := hl ▸ h.log, settings := State.settingsSound_congr hs h.settings, host := hh
          notices := hn ▸ h.notices }

/-- What changes the Notice Queue alone of the four. -/
theorem State.PortSound.of_notices {s t : State} (h : s.PortSound) (hn : t.notices.sound)
    (same : t.log = s.log ∧ t.settings = s.settings ∧ t.host = s.host) : t.PortSound := by
  obtain ⟨hl, hs, hh⟩ := same
  exact { log := hl ▸ h.log, settings := State.settingsSound_congr hs h.settings, host := hh ▸ h.host
          notices := hn }

/-- What changes the Fault Log alone of the four. -/
theorem State.PortSound.of_log {s t : State} (h : s.PortSound) (hl : t.log.sound)
    (same : t.settings = s.settings ∧ t.host = s.host ∧ t.notices = s.notices) : t.PortSound := by
  obtain ⟨hs, hh, hn⟩ := same
  exact { log := hl, settings := State.settingsSound_congr hs h.settings, host := hh ▸ h.host
          notices := hn ▸ h.notices }

/-! ### Processing steps (R141, R164) -/

/-- Logging a batch. -/
theorem State.PortSound.logBatch {s : State} (h : s.PortSound) : s.logBatch.PortSound :=
  h.of_log (State.logBatch_log_sound h.log) (by simp)

/-- The end of the timer phase. -/
theorem State.PortSound.finishTimers {s : State} (h : s.PortSound) : s.finishTimers.PortSound := by
  unfold State.finishTimers
  have hexpired : (s.expireAll s.timerCount).releaseWaiting.PortSound := h.of_same (by simp)
  exact hexpired.logBatch.of_same (by simp)

/-- Leaving the timer phase. -/
theorem State.PortSound.leaveTimers {s : State} (h : s.PortSound) : s.leaveTimers.PortSound := by
  unfold State.leaveTimers
  split
  · exact h.finishTimers
  · exact h

/-- Coming to the pass. -/
theorem State.PortSound.toPass {s : State} (h : s.PortSound) : s.toPass.PortSound := by
  unfold State.toPass
  split
  · exact h
  · exact h.leaveTimers.of_same (by simp)

/-- The drain test (R17). -/
theorem State.PortSound.drainTest {s : State} (h : s.PortSound) : s.drainTest.PortSound :=
  h.of_host (by rw [State.drainTest_host]; exact h.host) (by simp)

/-- The end of a step. -/
theorem State.PortSound.closeStep {s : State} (h : s.PortSound) : s.closeStep.PortSound := by
  unfold State.closeStep
  split
  · exact h
  · have hpass : (s.toPass.passAll 16).PortSound := h.toPass.of_same (by simp)
    exact hpass.drainTest.logBatch.of_same (by simp)

/-- Going on to a later phase. -/
theorem State.PortSound.advance {s : State} (p : Phase) (h : s.PortSound) : (s.advance p).PortSound := by
  unfold State.advance
  split
  · exact h
  · cases p with
    | timers => exact h.of_same (by simp)
    | between | spanLine | claimLine | packets | host | exam | pass => exact h.leaveTimers.of_same (by simp)

/-- The step reaches the phase of an event. -/
theorem State.PortSound.enter {s : State} (p : Phase) (h : s.PortSound) : (s.enter p).PortSound := by
  unfold State.enter
  split
  · exact h
  · split
    · exact h.closeStep
    · split
      · exact h.advance p
      · exact h.closeStep.of_same (by simp)

/-! ### The commands (section 1.3) -/

/-- Loading a report of at most 16 bytes where no collection is in progress. -/
theorem State.PortSound.loadReport {s : State} (h : s.PortSound) (hc : s.host.collected = none) (bytes : List Byte)
    (hl : bytes.length ≤ 16) : (s.loadReport bytes).PortSound :=
  h.of_host (HostPort.load_sound hc bytes hl) (by simp)

/-- The decoder goes to a state other than COLLECTING where no collection is in progress. -/
theorem State.PortSound.setDecoder {s : State} (h : s.PortSound) (hc : s.host.collected = none) (d : Decoder)
    (hd : d ≠ .collecting) : (s.setDecoder d).PortSound := by
  obtain ⟨⟨hp, hl⟩, -⟩ := h.host
  exact h.of_host (HostPort.sound_of_no_collection hc hd hp hl) (by simp)

/-- TAKEN has ten bytes (R131). -/
theorem Notices.takenReport_length (n : Notices) : n.takenReport.length = 10 := by
  unfold Notices.takenReport
  split
  · simp
  next r _ => cases hb : r.body <;> simp [NoticeBody.report, addressBytes]

/-- Every report fits the buffer (R131, R146, R147, R153 to R156). -/
theorem State.reportFor_length {s : State} {id selector : Byte} {bytes : List Byte}
    (h : s.reportFor id selector = some bytes) : bytes.length ≤ 16 := by
  have hfault : s.log.faultReport.length ≤ 16 := by
    unfold FaultLog.faultReport addressField
    split
    · simp
    · split <;> simp [addressBytes]
  have htaken : s.notices.takenReport.length ≤ 16 := by simp [Notices.takenReport_length]
  unfold State.reportFor at h
  split at h
  case h_7 =>
    obtain ⟨i, -, rfl⟩ := Option.map_eq_some_iff.mp h
    simp [State.settingReport]
  case h_10 => cases h
  all_goals
    obtain rfl := Option.some.inj h
    simp [State.identityReport, Addressing.report, FaultLog.summaryReport, wordBytes, State.engineReport,
      State.statisticsReport, HostLock.report, hfault, htaken]

/-- SET (R150): the value stored has no bit set that must be 0. -/
theorem State.setCmd_settingsSound {s : State} (id low high : Byte) (h : s.settingsSound) :
    (s.setCmd id low high).settingsSound := by
  unfold State.setCmd
  split
  next i _ =>
    split
    next hmask =>
      intro j
      by_cases hij : i = j
      · subst hij; simpa [State.setting, Vector.get_eq_getElem] using hmask
      · have hne : i.val ≠ j.val := fun hc => hij (Fin.ext hc)
        simpa [State.setting, Vector.get_eq_getElem, Vector.getElem_set_ne, hne] using h j
    · exact h
  · exact h

/-- FAULT CLEAR (R145) only takes codes out of the summary. -/
theorem State.faultClearCmd_log_sound {s : State} (code : Byte) (h : s.log.sound) :
    (s.faultClearCmd code).log.sound := by
  obtain ⟨hover, hlow, hhigh⟩ := h
  unfold State.faultClearCmd
  split
  · exact ⟨hover, by simp, by simp⟩
  · split
    · refine ⟨hover, ?_, ?_⟩
      · show (s.log.summary &&& _).getLsbD 0 = false
        rw [BitVec.getLsbD_and, hlow, Bool.false_and]
      · show (s.log.summary &&& _).getLsbD 31 = false
        rw [BitVec.getLsbD_and, hhigh, Bool.false_and]
    · exact ⟨hover, hlow, hhigh⟩

/-- MAP READ's report has seven bytes (R56). -/
theorem State.readMapEntry_report_length (s : State) (index : Byte) : (s.readMapEntry index).2.length = 7 := by
  unfold State.readMapEntry
  split <;> rfl

/-- ABORT leaves the decoder IDLE (R92). -/
theorem State.PortSound.abort {s : State} (h : s.PortSound) : s.abort.PortSound := by
  have hreleased : (if s.abortDiscards then s.abortDiscard.raise (bareFault .aborted .outbound)
      else s.abortDiscard).PortSound := by
    split <;> exact h.of_same (by simp)
  obtain ⟨⟨hp, hl⟩, -⟩ := hreleased.host
  exact hreleased.of_host (HostPort.sound_of_no_collection rfl (by simp [State.abort])
    (by simpa [State.abort] using hp) (by simpa [State.abort] using hl)) (by simp [State.abort])

/-- After reset the Host Port is sound (R3). -/
theorem HostPort.reset_sound : HostPort.reset.sound :=
  HostPort.sound_of_no_collection rfl (by decide) (by decide) (by decide)

/-- After reset the Notice Queue is sound (R126). -/
theorem Notices.reset_sound : Notices.reset.sound := ⟨by decide, by decide, by decide⟩

/-- The RESTART pair (R159). -/
theorem State.PortSound.restart {s : State} (h : s.PortSound) : s.restart.PortSound where
  log := h.log
  settings := h.settings
  host := HostPort.reset_sound
  notices := Notices.reset_sound

/-- The end of a stream (R5). -/
theorem State.PortSound.endStream {s : State} (h : s.PortSound) : s.endStream.PortSound := by
  unfold State.endStream
  split
  next hd =>
    have hinvalid : s.invalidate.PortSound := h.of_same (by simp)
    exact hinvalid.setDecoder (h.host.collected_none (by simp [hd])) .idle (by decide)
  next hd => exact h.setDecoder (h.host.collected_none (by simp [hd])) .idle (by decide)
  next hd => exact h.setDecoder (h.host.collected_none (by simp [hd])) .idle (by decide)
  · exact h
  · exact h

/-- The cancelling of a collection (R8). -/
theorem State.PortSound.cancelCollection {s : State} (h : s.PortSound) : s.cancelCollection.PortSound := by
  obtain ⟨⟨hp, hl⟩, -⟩ := h.host
  unfold State.cancelCollection
  split
  · have hdropped : s.dropCollection.PortSound :=
      h.of_host (HostPort.sound_of_no_collection rfl (by simp [State.dropCollection]) hp hl) (by simp)
    exact hdropped.of_same (by simp)
  · exact h

/-- Every command, executed where no collection is in progress (section 1.3). -/
theorem State.PortSound.execute {s : State} (c : Command) (ps : List Byte) (h : s.PortSound)
    (hc : s.host.collected = none) : (s.execute c ps).PortSound := by
  cases c with
  | nop => exact h
  | setPage | setOffset | setAddress | direction | windowLimit | nextLine | reload | clearCounters | fetchLock
  | storeUnlock | releaseLock | gateWrite | sendNotice | sendRecall | sleep | wake =>
    simp only [State.execute]
    exact h.of_same (by simp)
  | writeStream => exact h.setDecoder hc .writeStream (by decide)
  | readStream =>
    have hfetched : s.invalidate.demandFetch.PortSound := h.of_same (by simp)
    exact hfetched.setDecoder (by simpa using hc) .readStream (by decide)
  | drain =>
    have hpending : (s.setHost { s.host with drainPending := true }).PortSound :=
      h.of_host (h.host.of_same ⟨rfl, rfl, rfl, rfl⟩) (by simp)
    exact hpending.drainTest
  | mapWrite =>
    simp only [State.execute]
    split <;> exact h.of_same (by simp)
  | mapRead =>
    have hread : (s.readMapEntry (param ps 0)).1.PortSound := h.of_same (by simp)
    exact hread.loadReport (by simpa using hc) _ (by rw [State.readMapEntry_report_length]; decide)
  | gateRead =>
    simp only [State.execute, State.gateReadCmd]
    split
    · exact h.loadReport hc _ (by simp [GateEntry.bytes])
    · exact h.of_same (by simp)
  | set =>
    exact
      { log := by simpa [State.execute] using h.log, settings := State.setCmd_settingsSound _ _ _ h.settings
        host := by simpa [State.execute] using h.host, notices := by simpa [State.execute] using h.notices }
  | report =>
    simp only [State.execute, State.reportCmd]
    split
    next bytes hbytes => exact h.loadReport hc bytes (State.reportFor_length hbytes)
    · exact h.of_same (by simp)
  | takeNotice =>
    have htaken : ({ s with notices := s.notices.take } : State).PortSound :=
      h.of_notices (Notices.take_sound h.notices) (by simp)
    exact htaken.loadReport hc _ (by simp [Notices.takenReport_length])
  | faultRelease =>
    simp only [State.execute]
    obtain ⟨-, hlow, hhigh⟩ := h.logBatch.log
    exact h.of_log ⟨by simp [State.faultReleaseCmd], hlow, hhigh⟩ (by simp)
  | faultClear =>
    simp only [State.execute]
    exact h.of_log (State.faultClearCmd_log_sound _ h.log) (by simp)
  | abort => exact h.abort
  | restart => exact h.restart

/-! ### Host cycles (chapter 1) -/

/-- The prelude leaves no collection (R5). -/
theorem State.commandPrelude_collected_none {s : State} (skipSeal : Bool) :
    (s.commandPrelude skipSeal).host.collected = none := by
  unfold State.commandPrelude State.cancelCollection
  split
  · simp [State.dropCollection]
  · assumption

/-- The RESTART flag and the IDLE latch are no part of what is sound. -/
theorem State.PortSound.setHalf {s : State} (b : Bool) (h : s.PortSound) : (s.setHalf b).PortSound :=
  h.of_host (h.host.of_same ⟨rfl, rfl, rfl, rfl⟩) (by simp)

/-- The prelude of a command byte (R5, R8). -/
theorem State.PortSound.commandPrelude {s : State} (skipSeal : Bool) (h : s.PortSound) :
    (s.commandPrelude skipSeal).PortSound := by
  unfold State.commandPrelude
  have hlatch : s.clearLatch.PortSound := h.of_host (h.host.of_same ⟨rfl, rfl, rfl, rfl⟩) (by simp)
  have hsealed : (if skipSeal then s.clearLatch else s.clearLatch.seal).PortSound := by
    split
    · exact hlatch
    · exact hlatch.of_same (by simp)
  exact hsealed.endStream.cancelCollection

/-- Decoding a command byte after its prelude (R5). -/
theorem State.PortSound.decode {s : State} (c : Option Command) (h : s.PortSound) (hc : s.host.collected = none) :
    (s.decode c).PortSound := by
  cases c with
  | none =>
    simp only [State.decode]
    exact h.of_same (by simp)
  | some c =>
    simp only [State.decode]
    split
    · exact h.execute c [] hc
    next howed =>
      obtain ⟨⟨hp, hl⟩, -⟩ := h.host
      have hle := owed_le_nine c s.checkSupply
      refine h.of_host ⟨⟨hp, hl⟩, by simp [State.collect], ?_⟩ (by simp)
      rintro d hd
      obtain rfl := Option.some.inj hd
      exact ⟨by simp; omega, by simpa using hle⟩

/-- A command byte (R5, R6, R12). -/
theorem State.PortSound.commandByte {s : State} (b : Byte) (h : s.PortSound) : (s.commandByte b).PortSound := by
  unfold State.commandByte
  split
  · exact (h.setHalf false).of_same (by simp)
  · split
    · unfold State.restartByte
      split
      · exact h.restart
      · exact h.setHalf true
    · exact ((h.setHalf false).commandPrelude _).decode _ (State.commandPrelude_collected_none _)

/-- A parameter byte of a collection (R7). -/
theorem State.PortSound.parameter {s : State} (b : Byte) (h : s.PortSound) : (s.parameter b).PortSound := by
  unfold State.parameter
  split
  · exact h
  next c hcol =>
    obtain ⟨⟨hp, hl⟩, hiff, howed⟩ := h.host
    obtain ⟨hpos, hle⟩ := howed c hcol
    split
    · have hdropped : s.dropCollection.PortSound :=
        h.of_host (HostPort.sound_of_no_collection rfl (by simp [State.dropCollection]) hp hl) (by simp)
      exact hdropped.execute _ _ rfl
    next hmore =>
      refine h.of_host ⟨⟨hp, hl⟩, by simpa [hcol] using hiff, ?_⟩ (by simp)
      rintro d hd
      obtain rfl := Option.some.inj hd
      simp only [Collected.take, List.length_append, List.length_singleton]
      omega

/-- A byte that BUSY discards (R10). -/
theorem State.PortSound.overrun {s : State} (h : s.PortSound) : s.overrun.PortSound := by
  unfold State.overrun
  exact (h.setHalf false).of_same (by simp)

/-- A write with CD = 1 (R10). -/
theorem State.PortSound.writeCommand {s : State} (b : Byte) (h : s.PortSound) : (s.writeCommand b).PortSound := by
  unfold State.writeCommand
  split
  · exact h
  · split
    · split
      · have hlapsed : (s.setHost s.host.lapse).PortSound := h.of_host (HostPort.lapse_sound h.host) (by simp)
        exact hlapsed.commandByte b
      · exact h.overrun
    · split
      · exact (h.setHalf false).parameter b
      · exact h.commandByte b

/-- A write with CD = 0 (R13). -/
theorem State.PortSound.writeData {s : State} (b : Byte) (h : s.PortSound) : (s.writeData b).PortSound := by
  unfold State.writeData
  split
  · exact h
  · split
    · exact h.overrun
    · split <;> exact (h.setHalf false).of_same (by simp)

/-- A read with CD = 0 (R14, R20). -/
theorem State.PortSound.readData {s : State} (h : s.PortSound) : s.readData.PortSound := by
  have hserved : ∀ t : State, t.PortSound → t.serveDataRead.1.PortSound := by
    intro t ht
    unfold State.serveDataRead
    split
    · exact ht.of_same (by simp)
    · unfold State.readReport
      split
      next hlt =>
        obtain ⟨⟨-, hl⟩, hiff, howed⟩ := ht.host
        exact ht.of_host ⟨⟨hlt, hl⟩, hiff, howed⟩ (by simp)
      · exact ht.of_same (by simp)
    · exact ht.of_same (by simp)
    · exact ht.of_same (by simp)
    · exact ht.of_same (by simp)
  unfold State.readData
  split
  · exact (hserved _ (h.setHalf false)).of_same (by simp)
  · exact h.of_same (by simp)

/-- A host cycle in its place in the step (R164). -/
theorem State.PortSound.hostCycle {s : State} {f : State → State}
    (hf : ∀ t : State, t.PortSound → (f t).PortSound) (h : s.PortSound) : (s.hostCycle f).PortSound := by
  have hselected : ((s.enter .host).select true).PortSound := (h.enter .host).of_same (by simp)
  exact (hf _ hselected).logBatch

/-! ### Packets (R67 to R71) -/

/-- A record that finds room leaves the four sound. -/
theorem State.PortSound.queueRecord {s : State} (body : NoticeBody) (level : Level) (source : Node) (h : s.PortSound)
    (hlen : s.notices.queue.length < 16)
    (hcount : (∃ c, body = .notice c) → s.notices.queue.countP NoticeRecord.isNotice < 14) :
    (s.queueRecord body level source).PortSound :=
  h.of_notices (State.queueRecord_notices_sound h.notices hlen hcount) (by simp)

/-- The checks of an inbound NOTICE (R127). -/
theorem State.PortSound.decideNotice {s : State} (p : NoticePacket) (h : s.PortSound) :
    (s.decideNotice p).PortSound := by
  unfold State.decideNotice
  split
  · exact h.of_same (by simp)
  · split
    · exact h.of_same (by simp)
    · split
      · exact h.of_same (by simp)
      next hroom =>
        have hlen : s.notices.queue.length < 16 := by simp [State.noticeFull] at hroom; omega
        have hcount : s.notices.queue.countP NoticeRecord.isNotice < 14 := by simp [State.noticeFull] at hroom; omega
        exact (h.queueRecord (.notice p.code) (packetLevel p) p.source hlen fun _ => hcount).of_same (by simp)

/-- The check of an inbound FAULT-REPORT (R128). -/
theorem State.PortSound.decideFaultReport {s : State} (p : FaultReportPacket) (h : s.PortSound) :
    (s.decideFaultReport p).PortSound := by
  unfold State.decideFaultReport
  split
  · exact h.of_same (by simp)
  · split
    · exact h.of_same (by simp)
    next hroom =>
      exact (h.queueRecord (.faultReport p.faultCode p.address) 3 p.source (by omega) (by simp)).of_same (by simp)

/-- The checks of an inbound RECALL (R129). -/
theorem State.PortSound.decideRecall {s : State} (p : NoticePacket) (h : s.PortSound) :
    (s.decideRecall p).PortSound := by
  unfold State.decideRecall
  split
  · exact h.of_same (by simp)
  · split
    · exact h.of_same (by simp)
    · have hrecalled : ({ s with notices := s.notices.recall p } : State).PortSound :=
        h.of_notices (Notices.recall_sound p h.notices) (by simp)
      exact hrecalled.of_same (by simp)

/-- A NOTICE from another node. -/
theorem State.PortSound.receiveNotice {s : State} (p : NoticePacket) (h : s.PortSound) :
    (s.receiveNotice p).PortSound := by
  unfold State.receiveNotice
  split
  · exact h.of_same (by simp)
  · split
    · exact h.of_same (by simp)
    · exact h.decideNotice p

/-- A RECALL from another node. -/
theorem State.PortSound.receiveRecall {s : State} (p : NoticePacket) (h : s.PortSound) :
    (s.receiveRecall p).PortSound := by
  unfold State.receiveRecall
  split
  · exact h.of_same (by simp)
  · split
    · exact h.of_same (by simp)
    · exact h.decideRecall p

/-- A FAULT-REPORT from another node. -/
theorem State.PortSound.receiveFaultReport {s : State} (p : FaultReportPacket) (h : s.PortSound) :
    (s.receiveFaultReport p).PortSound := by
  unfold State.receiveFaultReport
  split
  · exact h.of_same (by simp)
  · split
    · exact h.of_same (by simp)
    · exact h.decideFaultReport p

/-! ### The batch of unlogged faults (R141) -/

/-- What changes neither the batch nor the step's record. -/
theorem State.batchSound.of_same {s t : State} (h : s.batchSound)
    (same : t.raised = s.raised ∧ t.sched.phase = s.sched.phase) : t.batchSound := by
  unfold State.batchSound
  rw [same.1, same.2]
  exact h

/-- The end of the step in progress leaves nothing unlogged. -/
theorem State.batchSound.closeStep_raised {s : State} (h : s.batchSound) : s.closeStep.raised = [] := by
  by_cases hb : s.sched.phase = .between
  · simpa [State.closeStep, hb, State.batchSound] using h
  · exact State.closeStep_raised s hb

/-- Leaving the timer phase, or a phase before the pass, leaves nothing unlogged. -/
theorem State.batchSound.leaveTimers_raised {s : State} (h : s.batchSound) (hp : s.sched.phase ≠ .pass) :
    s.leaveTimers.raised = [] := by
  unfold State.leaveTimers
  split
  · exact State.finishTimers_raised s
  next ht => simpa [State.batchSound, ht, hp] using h

/-- Nothing but an expiry or an action of the pass meets a fault unlogged (R141). -/
theorem State.batchSound.enter_raised {s : State} (p : Phase) (h : s.batchSound) (hr : s.running = true)
    (ht : p ≠ .timers) (hp : p ≠ .pass) : (s.enter p).raised = [] := by
  unfold State.enter
  rw [hr]
  simp only [Bool.not_true, Bool.false_eq_true, if_false]
  split
  · exact h.closeStep_raised
  · split
    next hjoins =>
      have hpass : s.sched.phase ≠ .pass := by
        intro hc
        cases p <;> simp_all [State.joins, Phase.rank]
      unfold State.advance
      split
      next hsame => simpa [State.batchSound, hsame, ht, hp] using h
      · cases p with
        | timers => exact absurd rfl ht
        | pass => exact absurd rfl hp
        | between | spanLine | claimLine | packets | host | exam =>
          simpa using h.leaveTimers_raised hpass
    · cases p with
      | timers => exact absurd rfl ht
      | pass => exact absurd rfl hp
      | between | spanLine | claimLine | packets | host | exam =>
        simpa [State.openStep] using h.closeStep_raised

/-- The step reaches the phase of an event. -/
theorem State.batchSound.enter {s : State} (p : Phase) (h : s.batchSound) : (s.enter p).batchSound := by
  cases hr : s.running
  · rw [State.enter_of_not_running p s hr]; exact h
  · by_cases ht : p = .timers
    · exact .inr (.inl ((State.enter_phase p s hr).trans ht))
    · by_cases hp : p = .pass
      · exact .inr (.inr ((State.enter_phase p s hr).trans hp))
      · exact .inl (h.enter_raised p hr ht hp)

/-- An expiry stays in its phase. -/
theorem State.expire_phase (t : TimerId) (s : State) : (s.expire t).sched.phase = s.sched.phase := by
  cases t with
  | hostHold =>
    simp only [State.expire, State.expireHostHold]
    split <;> simp [State.releaseHeld, State.trackLock]
  | response | sendPoint | lockFetch | report | beat | nodeHold | kept | claim | quarantine => simp [State.expire]

/-- An action of the pass stays in the pass. -/
theorem State.passAct_phase (a : PassAction) (s : State) : (s.passAct a).sched.phase = s.sched.phase := by
  cases a <;> simp [State.passAct, State.grant]

/-! ### Events -/

/-- The five parts that every step keeps. -/
def State.EventSound (s : State) : Prop := s.PortSound ∧ s.batchSound

/-- What changes neither the four fields nor the batch nor the step's record. -/
theorem State.EventSound.of_same {s t : State} (h : s.EventSound) (hp : s.PortSound → t.PortSound)
    (same : t.raised = s.raised ∧ t.sched.phase = s.sched.phase) : t.EventSound :=
  ⟨hp h.1, h.2.of_same same⟩

/-- The step reaches the phase of an event. -/
theorem State.EventSound.enter {s : State} (p : Phase) (h : s.EventSound) : (s.enter p).EventSound :=
  ⟨h.1.enter p, h.2.enter p⟩

/-- A host cycle logs its batch. -/
theorem State.EventSound.hostCycle {s : State} {f : State → State}
    (hf : ∀ t : State, t.PortSound → (f t).PortSound) (h : s.EventSound) : (s.hostCycle f).EventSound :=
  ⟨h.1.hostCycle hf, .inl (by simp [State.hostCycle])⟩

/-- One write with CD = 1. -/
theorem State.EventSound.hostWrite {s : State} (b : Byte) (h : s.EventSound) : (s.hostWrite b).EventSound :=
  h.hostCycle fun _ ht => ht.writeCommand b

/-- Successive writes with CD = 1. -/
theorem State.EventSound.hostWrites {s : State} (bs : List Byte) (h : s.EventSound) : (s.hostWrites bs).EventSound := by
  induction bs generalizing s with
  | nil => exact h
  | cons b bs ih => exact ih (h.hostWrite b)

/-- A received packet logs its batch. -/
theorem State.EventSound.packetEvent {s : State} {f : State → State}
    (hf : ∀ t : State, t.PortSound → (f t).PortSound) (h : s.EventSound) : (s.packetEvent f).EventSound :=
  ⟨(hf _ (h.1.enter .packets)).logBatch, .inl (by simp [State.packetEvent])⟩

/-- An expiry row. -/
theorem State.EventSound.expiryEvent {s : State} (t : TimerId) (h : s.EventSound) : (s.expiryEvent t).EventSound := by
  unfold State.expiryEvent
  split
  next hdue =>
    exact ⟨(h.1.enter .timers).of_same (by simp),
      .inr (.inl ((State.expire_phase _ _).trans (State.enter_phase .timers s hdue.1)))⟩
  · exact h

/-- A row of the pass. -/
theorem State.EventSound.passEvent {s : State} (w : PassAction → Bool) (h : s.EventSound) :
    (s.passEvent w).EventSound := by
  unfold State.passEvent
  split
  next hr =>
    split
    · exact ⟨(h.1.enter .pass).of_same (by simp),
        .inr (.inr ((State.passAct_phase _ _).trans (State.enter_phase .pass s hr)))⟩
    · exact h
  · exact h

/-- The end of a step. -/
theorem State.EventSound.closeStep {s : State} (h : s.EventSound) : s.closeStep.EventSound :=
  ⟨h.1.closeStep, .inl h.2.closeStep_raised⟩

/-- The entry into reset (R157, R158). -/
theorem State.EventSound.startPinReset {s : State} (straps : Node) (h : s.EventSound) :
    (s.startPinReset straps).EventSound := by
  unfold State.startPinReset
  split
  · exact ⟨h.1.of_same (by simp), .inl rfl⟩
  · exact h
  · exact ⟨h.1.of_same (by simp), .inl rfl⟩

/-- The state after reset is sound (section 11.4). -/
theorem State.reset_eventSound : State.reset.EventSound where
  left :=
    { log := ⟨by decide, by decide, by decide⟩, settings := by unfold State.settingsSound; decide
      host := HostPort.reset_sound, notices := Notices.reset_sound }
  right := .inl rfl

/-- The end of initialization sets the values of reset (R157). -/
theorem State.EventSound.endInitialization {s : State} (h : s.EventSound) : s.endInitialization.EventSound := by
  unfold State.endInitialization
  split
  · exact ⟨State.reset_eventSound.1.of_same ⟨rfl, rfl, rfl, rfl⟩, .inl rfl⟩
  · exact h
  · exact h

/-- SPAN-RESET asserted (R160). -/
theorem State.PortSound.assertSpanReset {s : State} (h : s.PortSound) : s.assertSpanReset.PortSound :=
  h.of_notices (h.notices.of_sublist (List.nil_sublist _)
    (by simp [State.assertSpanReset, State.spanClear, Notices.spanReset])) (by simp)

/-- Every command keeps the five parts. -/
theorem exec_eventSound (i : Instr) (s : State) (h : s.EventSound) : ∃ t, exec i s = .next t ∧ t.EventSound := by
  cases i with
  | nop | unknownCommandByte | nextLine | reload | clearCounters | writeStream | readStream | drain | fetchLock
  | releaseLock | takeNotice | faultRelease | abort | restartFirstByte | sleep | wake =>
    exact ⟨_, rfl, h.hostWrite _⟩
  | setPage | setOffset | setAddress | direction | windowLimit | storeUnlock | mapWrite | mapRead | gateWrite | gateRead
  | set | sendNotice | sendRecall | faultClear | reportCounters | reportFault | reportSummary | reportEngine
  | reportStatistics | reportSetting | reportLock | reportTaken =>
    exact ⟨_, rfl, h.hostWrites _⟩
  | reportIdentity levels =>
    have hlevels : (s.setLevels levels).EventSound := h.of_same (fun hp => hp.of_same (by simp)) (by simp)
    exact ⟨_, rfl, hlevels.hostWrites _⟩
  | parameterByte | restart => exact ⟨_, rfl, h.hostCycle fun _ ht => ht.writeCommand _⟩
  | dataByte => exact ⟨_, rfl, h.hostCycle fun _ ht => ht.writeData _⟩
  | dataRead => exact ⟨_, rfl, h.hostCycle fun _ ht => ht.readData⟩
  | csRelease =>
    refine ⟨_, rfl, ?_⟩
    unfold State.releaseSelect
    exact (h.enter .host).of_same (fun hp => hp.of_host (HostPort.lapse_sound hp.host) (by simp)) (by simp)
  | drainComplete =>
    refine ⟨_, rfl, ?_⟩
    split
    · exact (h.enter .pass).closeStep
    · exact h
  | powerOnReset => exact ⟨_, rfl, h.1.of_same (by simp), .inl rfl⟩
  | pinReset => exact ⟨_, rfl, (h.enter .between).startPinReset _⟩
  | resetEnd => exact ⟨_, rfl, h.of_same (fun hp => hp.of_same (by simp)) (by simp)⟩
  | resetInitializationEnd => exact ⟨_, rfl, h.endInitialization⟩
  | spanResetAssertion =>
    refine ⟨_, rfl, ?_⟩
    split
    · exact h
    · split
      · exact ⟨(h.1.enter .spanLine).assertSpanReset.logBatch, .inl (by simp)⟩
      · exact h.of_same (fun hp => hp.of_same (by simp)) (by simp)
  | spanResetDeassertion =>
    refine ⟨_, rfl, ?_⟩
    split
    · exact (h.enter .spanLine).of_same (fun hp => hp.of_same (by simp)) (by simp)
    · exact h
  | claimLineChange =>
    refine ⟨_, rfl, ?_⟩
    split
    · exact h
    · exact (h.enter .claimLine).of_same (fun hp => hp.of_same (by simp)) (by simp)
  | claimDriveAfterWait =>
    refine ⟨_, rfl, ?_⟩
    split
    · exact (h.enter .exam).of_same (fun hp => hp.of_same (by simp)) (by simp)
    · exact h
  | mapUpset => exact ⟨_, rfl, (h.enter .between).of_same (fun hp => hp.of_same (by simp)) (by simp)⟩
  | tickBoundary =>
    refine ⟨_, rfl, ?_⟩
    split
    · exact ⟨(h.1.enter .timers).finishTimers, .inl (State.finishTimers_raised _)⟩
    · exact h
  | sendTurn => exact ⟨_, rfl, (h.enter .between).of_same (fun hp => hp.of_same (by simp)) (by simp)⟩
  | inboundMemoryRequest | beat => exact ⟨_, rfl, h.packetEvent fun _ ht => ht.of_same (by simp)⟩
  | inboundNotice => exact ⟨_, rfl, h.packetEvent fun _ ht => ht.receiveNotice _⟩
  | inboundRecall => exact ⟨_, rfl, h.packetEvent fun _ ht => ht.receiveRecall _⟩
  | inboundFaultReport => exact ⟨_, rfl, h.packetEvent fun _ ht => ht.receiveFaultReport _⟩
  | sendPointReceipt | reportQueueReceipt | beatReceipt | abandonedOfferReceipt | orphanedReceipt =>
    refine ⟨_, rfl, ?_⟩
    split
    · exact h.packetEvent fun _ ht => ht.of_same (by simp)
    · exact h
  | responseTimerExpiry | sendPointRetryExpiry | lockFetchRetryExpiry | reportRetryExpiry | beatRetryExpiry
  | exchangeFetchRetryExpiry | nodeHoldExpiry | hostHoldExpiry | claimTimerExpiry | quarantineExpiry =>
    exact ⟨_, rfl, h.expiryEvent _⟩
  | headToSendPoint | localRequestGrant | exchangeLockAttempt | inboundReadGrant | inboundWriteGrant
  | inboundLockReadGrant | inboundUnlockWriteGrant | stagedRequestEntry | waitingLockRequestPlacement =>
    exact ⟨_, rfl, h.passEvent _⟩

/-- Settles O59: every command keeps the five parts, and so does the end of a step on an empty queue. -/
theorem everyStepKeepsLogPortAndNotices : Obligations.EveryStepKeepsLogPortAndNotices := by
  intro s t hlog hsettings hhost hnotices hbatch hstep
  have h : s.EventSound := ⟨⟨hlog, hsettings, hhost, hnotices⟩, hbatch⟩
  have ht : t.EventSound := by
    unfold step at hstep
    split at hstep
    · obtain rfl := Host.Outcome.next.inj hstep
      exact h.enter .between
    next c rest _ =>
      have hrest : (s.withPending rest).EventSound :=
        h.of_same (fun hp => hp.of_same ⟨rfl, rfl, rfl, rfl⟩) ⟨rfl, rfl⟩
      obtain ⟨u, hu, hsound⟩ := exec_eventSound c (s.withPending rest) hrest
      obtain rfl := Host.Outcome.next.inj (hu.symm.trans hstep)
      exact hsound
  exact ⟨ht.1.log, ht.1.settings, ht.1.host, ht.1.notices, ht.2⟩

/-! ### The state after reset (section 11.4) -/

/-- Every element of a vector of equal elements. -/
theorem get_replicate {α : Type} (n : Nat) (x : α) (i : Fin n) : (Vector.replicate n x).get i = x := by
  simp [Vector.get_eq_getElem]

/-- Settles O2: every register of `State.reset` has its value by definition. -/
theorem resetLeavesTheManualsValues : Obligations.ResetLeavesTheManualsValues := by
  have hmap : ∀ p : Byte, State.reset.mapEntry p = MapEntry.zero := fun p => get_replicate 256 _ p.toFin
  have htags : ∀ t : Tag, State.reset.tag t = .free := fun t => get_replicate 4 _ t
  have hgate : ∀ i : Fin 8, State.reset.gateEntry i = GateEntry.reset := fun i => get_replicate 8 _ i
  have hreport : ∀ i : Fin 16, State.reset.host.report.get i = 0x00#8 := fun i => get_replicate 16 _ i
  have hdata : ∀ i : Fin 8, State.reset.ilu.lock.data.get i = 0x00#8 := fun i => get_replicate 8 _ i
  have hstatus : State.reset.statusByte = 0x00#8 := by decide
  refine ⟨rfl, rfl, hreport, rfl, rfl, rfl, rfl, rfl, rfl, rfl, rfl, rfl, rfl, rfl, hmap, rfl, rfl, rfl, rfl, htags,
    rfl, rfl, rfl, rfl, rfl, rfl, rfl, rfl, rfl, rfl, rfl, rfl, hdata, rfl, rfl, rfl, rfl, rfl, rfl, rfl, rfl,
    fun _ => rfl, rfl, hgate, rfl, rfl, rfl, rfl, rfl, rfl, rfl, rfl, rfl, rfl, rfl, rfl, rfl, hstatus⟩

/-- Settles O60: nothing is queued, locked or collected after reset, and the values of section 11.4 lie in
their bounds. -/
theorem resetIsSound : Obligations.ResetIsSound := by
  have haddr : State.reset.addr.bounded := by unfold Addressing.bounded; decide
  have hqueue : State.reset.engine.queueSound := ⟨List.Pairwise.nil, by decide, by decide⟩
  have hmem : State.reset.xmm.sound := ⟨rfl, fun _ hc => absurd hc List.not_mem_nil, by decide⟩
  have htable : tableSound State.reset.ilu.table := ⟨by decide, List.Pairwise.nil⟩
  have hbounds : State.reset.boundsSound := ⟨by decide, by decide⟩
  obtain ⟨⟨hlog, hsettings, hhost, hnotices⟩, hbatch⟩ := State.reset_eventSound
  exact ⟨haddr, hqueue, hmem, htable, hbounds, hlog, hsettings, hhost, hnotices, hbatch⟩

end Sys2Proof.Machine
end

section
/-! PROOF. Host cycles in reset, under BUSY and at a ready bridge: discards, the status byte, ATN and drains. -/

namespace Sys2Proof.Machine

/-! ### Host cycles -/

/-- A host cycle asserts CS# and clears the RESTART flag (R12). -/
theorem State.select_setHalf (e : State) : (e.select true).setHalf false = e.touched := rfl

/-- Driving a byte and logging a batch touch different fields. -/
theorem State.drive_logBatch (b : Byte) (s : State) : (s.drive b).logBatch = s.logBatch.drove b := by
  have hrun : (s.drive b).running = s.running := rfl
  unfold State.logBatch
  rw [hrun]
  split <;> rfl

/-- A data byte at a running bridge with BUSY clear (R13). -/
theorem exec_dataByte (s e : State) (b : Byte) (he : e = s.atHost) (hr : e.running = true)
    (hs : e.streams.staging = none) :
    exec (.dataByte b) s = .next
      (if e.host.decoder = .writeStream then e.touched.mergeByte b
        else e.touched.raise (hostFault .protocol)).logBatch := by
  have hrun : (e.select true).running = true := hr
  show Host.Outcome.next (s.hostCycle (State.writeData b)) = _
  rw [State.hostCycle_at s e _ he]
  simp [State.writeData, hrun, hs, State.select_setHalf]

/-- A data read at a running bridge (R14). -/
theorem exec_dataRead (s e : State) (he : e = s.atHost) (hr : e.running = true) :
    exec .dataRead s = .next (State.drove e.touched.serveDataRead.2 e.touched.serveDataRead.1.logBatch) := by
  have hrun : (e.select true).running = true := hr
  show Host.Outcome.next (s.hostCycle State.readData) = _
  rw [State.hostCycle_at s e _ he, State.readData, if_pos hrun, State.drive_logBatch, State.select_setHalf]

/-- A byte that BUSY discards (R10). -/
theorem State.overrun_logBatch (e : State) (hr : e.running = true) (hraised : e.raised = []) :
    (e.select true).overrun.logBatch = e.touched.logged (hostFault .overrun) :=
  State.logBatch_raise e.touched (hostFault .overrun) hr hraised

/-- Settles O11: BUSY discards every written byte but the two that escape it. -/
theorem busyDiscardsWrittenBytes : Obligations.BusyDiscardsWrittenBytes := by
  intro s e b he hr hraised hstaged
  have hrun : (e.select true).running = true := hr
  have hbusy : (e.select true).streams.staging.isSome = true := hstaged
  constructor
  · intro habort hrestart
    have hescape : escapesBusy b = false := by simp [escapesBusy, Command.byte, habort, hrestart]
    show Host.Outcome.next (s.hostCycle (State.writeCommand b)) = _
    rw [State.hostCycle_at s e _ he, State.writeCommand, if_neg (by simp [hrun]), if_pos hbusy,
      if_neg (by simp [hescape]), State.overrun_logBatch e hr hraised]
  · show Host.Outcome.next (s.hostCycle (State.writeData b)) = _
    rw [State.hostCycle_at s e _ he, State.writeData, if_neg (by simp [hrun]), if_pos hbusy,
      State.overrun_logBatch e hr hraised]

/-! ### Reset (R11, R71, R157) -/

/-- In reset a host cycle is not part of a step, and there is no fault to log. -/
theorem State.hostCycle_in_reset (s : State) (f : State → State) (hr : s.running = false)
    (hf : (f (s.select true)).raised = []) : s.hostCycle f = f (s.select true) := by
  rw [State.hostCycle, State.enter_of_not_running .host s hr, State.logBatch_nothing _ hf]

/-- In reset a packet is answered and nothing else happens (R71). -/
theorem State.packetEvent_in_reset (s : State) (f : State → State) (r : Option Receipt) (hr : s.running = false)
    (hraised : s.raised = []) (hf : f s = s.reply r) : s.packetEvent f = s.reply r := by
  rw [State.packetEvent, State.enter_of_not_running .packets s hr, hf, State.logBatch_nothing (s.reply r) hraised]

/-- Settles O37: each row's own test for reset, with the answer of R71 for the packets. -/
theorem resetAnswersFull : Obligations.ResetAnswersFull := by
  intro s b m n q p hr hraised
  have hrun : (s.select true).running = false := hr
  refine ⟨by simp [State.statusByte, hr], ?_, ?_, ?_, ?_, ?_, ?_, ?_, ?_, ?_, ?_⟩
  · have hwrite : (s.select true).writeCommand b = s.select true := by simp [State.writeCommand, hrun]
    show Host.Outcome.next (s.hostCycle (State.writeCommand b)) = _
    rw [State.hostCycle_in_reset s _ hr (by rw [hwrite]; exact hraised), hwrite]
    rfl
  · have hwrite : (s.select true).writeData b = s.select true := by simp [State.writeData, hrun]
    show Host.Outcome.next (s.hostCycle (State.writeData b)) = _
    rw [State.hostCycle_in_reset s _ hr (by rw [hwrite]; exact hraised), hwrite]
    rfl
  · have hread : (s.select true).readData = (s.select true).drive 0 := by simp [State.readData, hrun]
    show Host.Outcome.next (s.hostCycle State.readData) = _
    rw [State.hostCycle_in_reset s _ hr (by rw [hread]; exact hraised), hread]
    rfl
  · exact congrArg _ (State.packetEvent_in_reset s _ _ hr hraised
      (by simp [State.receiveMemory, hr, State.replyInReset, State.selectionAperture, MemoryPacket.passes]))
  · exact congrArg _ (State.packetEvent_in_reset s _ _ hr hraised
      (by simp [State.receiveNotice, hr, State.replyInReset, NoticePacket.passes, NoticePacket.wellFormed]))
  · exact congrArg _ (State.packetEvent_in_reset s _ _ hr hraised
      (by simp [State.receiveRecall, hr, State.replyInReset, NoticePacket.passes, NoticePacket.wellFormed]))
  · exact congrArg _ (State.packetEvent_in_reset s _ _ hr hraised
      (by simp [State.receiveFaultReport, hr, State.replyInReset, FaultReportPacket.passes]; rfl))
  · exact congrArg _ (State.packetEvent_in_reset s _ _ hr hraised
      (by simp [State.receiveBeat, hr, State.replyInReset, BeatPacket.passes, BeatPacket.wellFormed]))
  · show Host.Outcome.next (s.enter .between).sendTurn = _
    rw [State.enter_of_not_running .between s hr, State.sendTurn, if_neg (by simp [State.maySend, hr])]
  · show Host.Outcome.next (if s.running then _ else s) = _
    rw [if_neg (by simp [hr])]

/-! ### The status byte and ATN (R15, R135) -/

/-- The bits of one flag's byte. -/
theorem bit_getLsbD (i j : Nat) (b : Bool) (hi : i < 8) : (bit i b).getLsbD j = (b && decide (i = j)) := by
  cases b <;> simp [bit, BitVec.getLsbD_twoPow, hi]

/-- MODE stands in bits 0 and 1 (R15). -/
theorem Decoder.mode_getLsbD (d : Decoder) (j : Nat) (hj : 2 ≤ j) : d.mode.getLsbD j = false := by
  have hlt : d.mode.toNat < 2 ^ j :=
    calc d.mode.toNat < 2 ^ 2 := by cases d <;> decide
      _ ≤ 2 ^ j := Nat.pow_le_pow_right (by decide) hj
  exact Nat.testBit_lt_two_pow hlt

/-- The status byte of a running bridge above MODE, bit by bit (R15). -/
theorem State.statusByte_bits (s : State) (hr : s.running = true) :
    s.statusByte.getLsbD 7 = s.streams.staging.isSome ∧ s.statusByte.getLsbD 6 = s.ready ∧
      s.statusByte.getLsbD 5 = (s.addr.pageEdge || s.addr.offEdge) ∧ s.statusByte.getLsbD 4 = s.atn ∧
      s.statusByte.getLsbD 3 = s.log.hard ∧ s.statusByte.getLsbD 2 = s.power.asleep := by
  have hbits : ∀ j, 2 ≤ j → s.statusByte.getLsbD j =
      ((s.streams.staging.isSome && decide (7 = j)) || (s.ready && decide (6 = j)) ||
        ((s.addr.pageEdge || s.addr.offEdge) && decide (5 = j)) || (s.atn && decide (4 = j)) ||
        (s.log.hard && decide (3 = j)) || (s.power.asleep && decide (2 = j))) := fun j hj => by
    simp [State.statusByte, State.busy, hr, bit_getLsbD, Decoder.mode_getLsbD _ j hj]
  refine ⟨?_, ?_, ?_, ?_, ?_, ?_⟩ <;> (rw [hbits _ (by decide)]; simp)

/-- MODE, the two low bits of the status byte (R15). -/
theorem State.statusByte_mode (s : State) (hr : s.running = true) : s.statusByte &&& 0x03#8 = s.host.decoder.mode := by
  have hlow : ∀ (i : Nat) (b : Bool), 2 ≤ i → i < 8 → bit i b &&& 0x03#8 = 0#8 := by
    intro i b h2 h8
    interval_cases i <;> cases b <;> decide
  have hmode : s.host.decoder.mode &&& 0x03#8 = s.host.decoder.mode := by cases s.host.decoder <;> decide
  simp [State.statusByte, hr, BitVec.and_or_distrib_right, hlow, hmode]

/-- READY in READ STREAM (R15). -/
theorem State.currentReady_iff (s : State) :
    s.currentReady = true ↔ (∃ data, s.streams.current.state = .valid data) ∧
      s.streams.current.page = s.addr.pageCtr ∧ s.streams.current.first = s.addr.unitFirst := by
  unfold State.currentReady
  cases s.streams.current.state <;> simp

/-- A hard or a soft fault in the capture record (R143). -/
theorem FaultLog.hard_iff (l : FaultLog) : l.hard = true ↔ ∃ f, l.capture = some f ∧ f.code.hard = true := by
  cases h : l.capture <;> simp [FaultLog.hard, h]

/-- A soft fault in the capture record (R143). -/
theorem FaultLog.soft_iff (l : FaultLog) : l.soft = true ↔ ∃ f, l.capture = some f ∧ f.code.hard = false := by
  cases h : l.capture <;> simp [FaultLog.soft, h]

/-- The threshold of ATTENTION as a number (R151). -/
theorem State.threshold_toNat (s : State) : s.threshold.toNat = (s.setting 0).toNat / 16 % 4 := by
  simp [State.threshold, Nat.shiftRight_eq_div_pow]

/-- A queued notice of the threshold or above (R135). -/
theorem State.noticeDue_iff (s : State) :
    (s.notices.queue.any fun r => s.threshold ≤ r.level) = true ↔
      ∃ r ∈ s.notices.queue, (s.setting 0).toNat / 16 % 4 ≤ r.level.toNat := by
  simp [BitVec.le_def, State.threshold_toNat]

/-- ATN of a running bridge (R135). -/
theorem State.atn_iff (s : State) (hr : s.running = true) :
    s.atn = true ↔
      ((s.setting 0).getLsbD 0 = true ∧ ∃ f, s.log.capture = some f ∧ f.code.hard = true) ∨
        ((s.setting 0).getLsbD 1 = true ∧ ∃ f, s.log.capture = some f ∧ f.code.hard = false) ∨
        ((s.setting 0).getLsbD 2 = true ∧ ∃ r ∈ s.notices.queue, (s.setting 0).toNat / 16 % 4 ≤ r.level.toNat) ∨
        ((s.setting 0).getLsbD 3 = true ∧ s.host.idleLatch = true) := by
  rw [← FaultLog.hard_iff, ← FaultLog.soft_iff, ← State.noticeDue_iff]
  simp only [State.atn, hr, Bool.true_and, Bool.or_eq_true, Bool.and_eq_true, or_assoc]

/-- Settles O12: the status byte flag by flag, each from bit 2 on by its own place, and MODE below. -/
theorem statusAndAttentionFollowTheState : Obligations.StatusAndAttentionFollowTheState := by
  intro s
  refine ⟨fun hr => by simp [State.atn, hr], fun hr => ?_⟩
  obtain ⟨hbusy, hready, hedge, hatn, hhard, hsleep⟩ := State.statusByte_bits s hr
  refine ⟨State.atn_iff s hr, hbusy, ?_, ?_, ?_, hedge, hatn, by rw [hhard, FaultLog.hard_iff], hsleep, ?_⟩
  · rintro ⟨hstream, hreport⟩
    rw [hready]
    unfold State.ready
    split <;> simp_all
  · intro hd
    rw [hready]
    simp [State.ready, hd]
  · intro hd
    have hcurrent : s.ready = s.currentReady := by simp [State.ready, hd]
    rw [hready, hcurrent]
    exact State.currentReady_iff s
  · rw [State.statusByte_mode s hr]
    cases s.host.decoder <;> rfl

/-! ### Drains (R16, R17) -/

/-- No tag is BUSY. -/
theorem State.noBusyTag_iff (s : State) :
    s.engine.tags.toList.any TagState.isBusy = false ↔ ∀ (t : Tag) (b : BusyTag), s.tag t ≠ .busy b := by
  rw [List.any_eq_false]
  constructor
  · intro h t b hb
    have hmem : s.tag t ∈ s.engine.tags.toList := by simp [State.tag, Vector.get_eq_getElem]
    exact h _ hmem (by rw [hb]; rfl)
  · intro h st hst hbusy
    obtain ⟨i, hi, rfl⟩ := List.getElem_of_mem hst
    cases hb : s.tag ⟨i, by simpa using hi⟩ with
    | busy b => exact h _ b hb
    | free | quarantine => simp_all [State.tag, Vector.get_eq_getElem, TagState.isBusy]

/-- The drain condition (R17). -/
theorem State.drained_iff (s : State) :
    s.drained = true ↔
      s.streams.pack = none ∧ s.streams.staging = none ∧ s.engine.queue = [] ∧ s.engine.sendPoint = none ∧
        ∀ (t : Tag) (b : BusyTag), s.tag t ≠ .busy b := by
  rw [← State.noBusyTag_iff]
  simp [State.drained, and_assoc]

/-- The prelude of a ready bridge does not touch what a drain waits for. -/
theorem State.started_drained (e : State) : e.started.drained = e.drained := by
  have hstreams : e.started.streams.pack = e.streams.pack ∧ e.started.streams.staging = e.streams.staging := by
    unfold State.started
    split <;> exact ⟨rfl, rfl⟩
  obtain ⟨hpack, hstaging⟩ := hstreams
  simp only [State.drained, hpack, hstaging]
  rfl

/-- DRAIN after the prelude (R16). -/
theorem State.drainCmd_started (e : State) :
    e.started.drainCmd =
      { e.started with host := { e.started.host with drainPending := !e.drained, idleLatch := e.drained } } := by
  have hsame : (e.started.setHost { e.started.host with drainPending := true }).drained = e.drained :=
    State.started_drained e
  unfold State.drainCmd State.drainTest
  rw [hsame]
  cases e.drained <;> rfl

/-- Settles O10: DRAIN makes the drain test at once, and the end of a step makes it when nothing else is left. -/
theorem drainsCompleteWhenNothingIsLeft : Obligations.DrainsCompleteWhenNothingIsLeft := by
  refine ⟨State.drained_iff, ?_, ?_⟩
  · intro s e he hready
    obtain ⟨-, -, -, -, -, -, hraised⟩ := id hready
    show Host.Outcome.next (s.hostWrite Command.drain.byte) = _
    rw [State.command_ready s e .drain (by decide) he hready rfl, State.logBatch_nothing]
    · exact congrArg _ (State.drainCmd_started e)
    · show e.started.drainCmd.raised = []
      rw [State.drainCmd_started]
      exact hraised
  · intro s hr hphase hraised hnext
    have hpass : s.passAll 16 = s := by simp [State.passAll, hnext]
    show Host.Outcome.next (if s.running then (s.enter .pass).closeStep else s) = _
    rw [if_pos hr, State.enter_same .pass s hphase rfl, State.closeStep, if_neg (by simp [hphase]), State.toPass,
      if_pos hphase, hpass, State.logBatch_nothing _ (by simpa using hraised)]
    unfold State.drainTest
    cases s.host.drainPending <;> cases s.drained <;> rfl

end Sys2Proof.Machine
end

section
/-! PROOF. Command bytes: the prelude of a ready bridge, the collection of parameters, and lapsed collections. -/

namespace Sys2Proof.Machine

/-! ### Command bytes at a ready bridge (R4, R5, R9) -/

/-- Any command byte of a ready bridge, the RESTART byte apart, starts and is decoded (R5, R9). -/
theorem State.writeCommand_ready_byte (e : State) (b : Byte) (hb : decodeCommandByte b ≠ some .restart)
    (h : e.readyForCommand) : (e.select true).writeCommand b = e.started.decode (decodeCommandByte b) := by
  obtain ⟨hr, hawake, hstaging, -, hcol, -, -⟩ := id h
  have hrun : (e.select true).running = true := hr
  rw [State.writeCommand, if_neg (by simp [hrun]), if_neg (by simp [hstaging]),
    if_neg (by simp [HostPort.collecting, hcol]), State.commandByte, if_neg (by simp [hawake]), if_neg hb,
    State.commandPrelude_ready e _ h]

/-- The prelude of a ready bridge meets no fault. -/
theorem State.readyForCommand.started_raised {e : State} (h : e.readyForCommand) : e.started.raised = [] := by
  obtain ⟨-, -, -, -, -, -, hraised⟩ := h
  exact hraised

/-- The command byte of a command that owes parameters opens a collection (R4). -/
theorem State.hostWrite_owing (s e : State) (c : Command) (n : Nat) (hc : c ≠ .restart) (he : e = s.atHost)
    (h : e.readyForCommand) (ho : c.owed e.checkSupply = n) (hn : n ≠ 0) :
    s.hostWrite c.byte = e.started.owing c n := by
  have howed : c.owed e.started.checkSupply = n := ho
  have hcollect : e.started.decode (some c) = e.started.owing c n := by
    simp only [State.decode, howed, if_neg hn]
    rfl
  rw [State.hostWrite, State.hostCycle_at s e _ he, State.writeCommand_ready e c hc h, hcollect]
  exact State.logBatch_nothing _ h.started_raised

/-! ### Parameter bytes (R7) -/

/-- A parameter byte of an open collection with BUSY clear. -/
theorem exec_parameterByte_collecting (s e : State) (c : Collected) (b : Byte) (he : e = s.atHost)
    (hr : e.running = true) (hs : e.streams.staging = none) (hcol : e.host.collected = some c)
    (hopen : c.lapsed = false) : exec (.parameterByte b) s = .next (e.touched.parameter b).logBatch := by
  have hrun : (e.select true).running = true := hr
  show Host.Outcome.next (s.hostCycle (State.writeCommand b)) = _
  rw [State.hostCycle_at s e _ he, State.writeCommand, if_neg (by simp [hrun]), if_neg (by simp [hs]),
    if_pos (by simp [HostPort.collecting, hcol, hopen]), State.select_setHalf]

/-- Settles O13: each command by its count, and a parameter byte by whether it is the last. -/
theorem parametersAreOwedAndCollected : Obligations.ParametersAreOwedAndCollected := by
  constructor
  · intro s e he h
    have howes : ∀ (c : Command) (n : Nat), c ≠ .restart → c.owed e.checkSupply = n → n ≠ 0 →
        Host.Outcome.next (s.hostWrite c.byte) = (Host.Outcome.next (e.started.owing c n) : Result) :=
      fun c n hc ho hn => congrArg _ (State.hostWrite_owing s e c n hc he h ho hn)
    have hmap : (if e.checkSupply = true then 7 else 6) ≠ 0 := by split <;> decide
    have hreport := howes .report 2 (by decide) rfl (by decide)
    simp only [List.forall_mem_cons]
    exact ⟨howes .setPage 1 (by decide) rfl (by decide), howes .setOffset 1 (by decide) rfl (by decide),
      howes .setAddress 2 (by decide) rfl (by decide), howes .direction 1 (by decide) rfl (by decide),
      howes .windowLimit 2 (by decide) rfl (by decide), howes .storeUnlock 9 (by decide) rfl (by decide),
      howes .mapWrite _ (by decide) rfl hmap, howes .mapRead 1 (by decide) rfl (by decide),
      howes .gateWrite 7 (by decide) rfl (by decide), howes .gateRead 1 (by decide) rfl (by decide),
      howes .set 3 (by decide) rfl (by decide), hreport, hreport, hreport, hreport, hreport, hreport, hreport, hreport,
      hreport, howes .sendNotice 4 (by decide) rfl (by decide), howes .sendRecall 4 (by decide) rfl (by decide),
      howes .faultClear 1 (by decide) rfl (by decide), List.forall_mem_nil _⟩
  · intro s e c b he hr hs hraised hcol hopen
    have hat := exec_parameterByte_collecting s e c b he hr hs hcol hopen
    have htouched : e.touched.host.collected = some c := hcol
    constructor
    · intro howed
      have happend : e.touched.parameter b =
          e.touched.setHost { e.touched.host with collected := some (c.take b) } := by
        rw [State.parameter, htouched]
        exact if_neg (by omega)
      rw [hat, happend]
      exact congrArg _ (State.logBatch_nothing _ hraised)
    · intro howed hcommand hparams
      have hexecute : e.touched.parameter b = e.touched.dropCollection.execute .setOffset [b] := by
        rw [State.parameter, htouched]
        simp [howed, hcommand, hparams, Collected.take]
      rw [hat, hexecute]
      exact congrArg _ (State.logBatch_nothing _ hraised)

/-! ### Lapsed collections (R2, R8) -/

/-- NOP at a bridge that is awake and not BUSY and has no open collection: its prelude and nothing else (R5, R9). -/
theorem exec_nop_prelude (s e : State) (he : e = s.atHost) (hr : e.running = true) (ha : e.power.asleep = false)
    (hs : e.streams.staging = none) (hopen : e.host.collecting = false) :
    exec .nop s = .next (e.touched.commandPrelude false).logBatch := by
  have hrun : (e.select true).running = true := hr
  show Host.Outcome.next (s.hostCycle (State.writeCommand Command.nop.byte)) = _
  rw [State.hostCycle_at s e _ he, State.writeCommand, if_neg (by simp [hrun]), if_neg (by simp [hs]),
    if_neg (by simp [hopen]), State.commandByte, if_neg (by simp [ha]), decode_byte, if_neg (by decide)]
  rfl

/-- Without an open pack there is nothing to seal. -/
theorem State.seal_none (s : State) (h : s.streams.pack = none) : s.seal = s := by simp [State.seal, h]

/-- The prelude in COLLECTING without an open pack: the collection is cancelled (R5, R8). -/
theorem State.commandPrelude_collecting (e : State) (c : Collected) (hp : e.streams.pack = none)
    (hd : e.host.decoder = .collecting) (hcol : e.host.collected = some c) :
    e.touched.commandPrelude false =
      (c.keepsPage { e.started with host := { e.started.host with collected := none } }).raise
        (hostFault .paramCut) := by
  have hsealed : e.touched.clearLatch.seal = e.touched.clearLatch := State.seal_none _ hp
  have hstream : e.touched.clearLatch.endStream = e.touched.clearLatch := by
    have hdec : e.touched.clearLatch.host.decoder = .collecting := hd
    simp [State.endStream, hdec]
  have hcollected : e.touched.clearLatch.host.collected = some c := hcol
  have hdropped : e.touched.clearLatch.dropCollection =
      { e.started with host := { e.started.host with collected := none } } := by
    unfold State.started
    rw [if_neg (by simp [hd])]
    rfl
  unfold State.commandPrelude State.cancelCollection
  simp only [Bool.false_eq_true, if_false, hsealed, hstream, hcollected, hdropped]

/-- What a cancelled collection keeps, other than the page of a SET ADDRESS: nothing (R8). -/
theorem Collected.keepsPage_none (c : Collected) (s : State) (h : c.command ≠ .setAddress ∨ c.params = []) :
    c.keepsPage s = s := by
  unfold Collected.keepsPage
  split
  · simp_all
  · rfl

/-- The page of a cancelled SET ADDRESS is kept if it lies within the limits (R8). -/
theorem Collected.keepsPage_setAddress (c : Collected) (s : State) (page : Byte) (rest : List Byte)
    (hc : c.command = .setAddress) (hp : c.params = page :: rest) :
    c.keepsPage s = { s with addr := if s.addr.low ≤ page ∧ page ≤ s.addr.high then { s.addr with pageReg := page }
                                     else s.addr } := by
  simp [Collected.keepsPage, hc, hp, Addressing.storePage, Addressing.within]

/-- Settles O14: the release marks the collection, and the next prelude cancels it. -/
theorem releasedCollectionsAreCancelled : Obligations.ReleasedCollectionsAreCancelled := by
  constructor
  · rintro s e rfl
    rfl
  · intro s e c he hr ha hs hp hraised hd hcol hlapsed
    have hnop := exec_nop_prelude s e he hr ha hs (by simp [HostPort.collecting, hcol, hlapsed])
    rw [State.commandPrelude_collecting e c hp hd hcol] at hnop
    constructor
    · intro hkeeps
      rw [hnop, Collected.keepsPage_none c _ hkeeps]
      exact congrArg _ (State.logBatch_raise _ _ hr hraised)
    · intro page rest hc hparams
      rw [hnop, Collected.keepsPage_setAddress c _ page rest hc hparams]
      exact congrArg _ (State.logBatch_raise _ _ hr hraised)

end Sys2Proof.Machine
end

section
/-! PROOF. The Write Combiner: the seal of an open pack by a prelude, and data bytes. -/

namespace Sys2Proof.Machine

/-! ### Sealing by a prelude (R5, R34) -/

/-- The prelude in WRITE STREAM with an open pack for a SPAN page that may be written: its WRITE is placed and the
decoder goes to IDLE (R5, R34). -/
theorem State.commandPrelude_writeStream (e : State) (p : Pack) (hcol : e.host.collected = none)
    (hd : e.host.decoder = .writeStream) (hp : e.streams.pack = some p)
    (hc : (e.mapEntry p.page).classify = .clean) (hv : (e.mapEntry p.page).valid = true)
    (hw : (e.mapEntry p.page).mayWrite = true) (hx : (e.mapEntry p.page).toExchange = false) :
    e.touched.commandPrelude false =
      (e.touched.clearLatch.dropPack.takeSerial.place ((e.mapEntry p.page).packRequest p e.sched.serial)).setDecoder
        .idle := by
  have hsealed : e.touched.clearLatch.seal =
      e.touched.clearLatch.dropPack.takeSerial.place ((e.mapEntry p.page).packRequest p e.sched.serial) :=
    State.seal_span e.touched.clearLatch (e.mapEntry p.page) p hp rfl hc hv hw hx
  have hhost : e.touched.clearLatch.seal.host = e.touched.clearLatch.host := by simp
  have hdecoder : e.touched.clearLatch.seal.host.decoder = .writeStream := by rw [hhost]; exact hd
  have hnone : (e.touched.clearLatch.seal.setDecoder .idle).host.collected = none := by
    show e.touched.clearLatch.seal.host.collected = none
    rw [hhost]
    exact hcol
  unfold State.commandPrelude State.endStream State.cancelCollection
  simp only [Bool.false_eq_true, if_false, hdecoder, hnone]
  rw [hsealed]

/-- A queue with a free entry takes a request at its tail (R35). -/
theorem State.place_free (r : Request) (s : State) (h : s.engine.queue.length < 8) : s.place r = s.enqueue r := by
  simp [State.place, State.freeEntry, h]

/-- With the queue full, a free staging slot takes the request (R35). -/
theorem State.place_staged (r : Request) (s : State) (h : 8 ≤ s.engine.queue.length) (hs : s.streams.staging = none) :
    s.place r = s.stage r := by
  simp [State.place, State.freeEntry, h, hs]

/-- The seal of a pack for a SPAN page that may be written, with a free queue entry (R34, R35). -/
theorem State.seal_span_free (s : State) (m : MapEntry) (p : Pack) (hp : s.streams.pack = some p)
    (hm : m = s.mapEntry p.page) (hc : m.classify = .clean) (hv : m.valid = true) (hw : m.mayWrite = true)
    (hx : m.toExchange = false) (hq : s.engine.queue.length < 8) :
    s.seal = State.queued (m.packRequest p s.sched.serial) s.dropPack.numbered := by
  rw [State.seal_span s m p hp hm hc hv hw hx, State.place_free _ s.dropPack.takeSerial hq]
  rfl

/-- Settles O7: at a ready bridge the prelude is `started`; with an open pack it places the pack's WRITE, and where that
goes is a matter of the queue's occupancy. -/
theorem nopRunsThePrelude : Obligations.NopRunsThePrelude := by
  constructor
  · intro s e b he h
    refine ⟨?_, ?_, ?_⟩
    · show Host.Outcome.next (s.hostWrite Command.nop.byte) = _
      rw [State.command_ready s e .nop (by decide) he h rfl]
      exact congrArg _ (State.logBatch_nothing _ h.started_raised)
    · intro hb
      show Host.Outcome.next (s.hostWrite b) = _
      rw [State.hostWrite, State.hostCycle_at s e _ he, State.writeCommand_ready_byte e b (by simp [hb]) h, hb]
      exact congrArg _ (State.logBatch_raise _ _ h.runs h.started_raised)
    · show Host.Outcome.next (s.hostWrite Command.writeStream.byte) = _
      rw [State.command_ready s e .writeStream (by decide) he h rfl]
      exact congrArg _ (State.logBatch_nothing _ h.started_raised)
  · intro s e p r he hr ha hs hcol hd hraised hp hc hv hw hx hreq
    have hnop := exec_nop_prelude s e he hr ha hs (by simp [HostPort.collecting, hcol])
    rw [State.commandPrelude_writeStream e p hcol hd hp hc hv hw hx, ← hreq] at hnop
    have hstarted : e.started =
        { e.touched with host := { e.host with halfSeen := false, idleLatch := false, decoder := .idle } } := by
      simp [State.started, State.touched, hd]
    rw [hnop, hstarted]
    constructor
    · intro hq
      rw [State.place_free r e.touched.clearLatch.dropPack.takeSerial hq]
      exact congrArg _ (State.logBatch_nothing _ hraised)
    · intro hq
      rw [State.place_staged r e.touched.clearLatch.dropPack.takeSerial hq hs]
      exact ⟨_, congrArg _ (State.logBatch_nothing _ hraised), rfl, rfl⟩

/-! ### Counters (R22) -/

/-- The step of the major counter, written out (R22). -/
theorem Addressing.stepMajor_eq (a : Addressing) :
    a.stepMajor =
      if a.pageMajor then
        if a.pageCtr = (if a.pageDec then a.low else a.high) then { a with pageEdge := true }
        else { a with pageCtr := if a.pageDec then a.pageCtr - 1 else a.pageCtr + 1 }
      else if a.offCtr = (if a.offDec then 0#8 else 255#8) then { a with offEdge := true }
      else { a with offCtr := if a.offDec then a.offCtr - 1 else a.offCtr + 1 } := rfl

/-! ### Data bytes (R13, R32, R34) -/

/-- A data byte that needs no seal before it and leaves its pack open (R32). -/
theorem State.mergeByte_open (s : State) (b : Byte) (p : Pack) (hother : s.sealOther = s) (hp : s.packHere = p)
    (hfull : (p.put s.addr.offCtr b).full = false) :
    s.mergeByte b = (s.setPack (p.put s.addr.offCtr b)).stepMajor := by
  simp [State.mergeByte, hother, hp, hfull]

/-- The open pack of the current page and block takes the byte (R32). -/
theorem State.packHere_same (s : State) (p : Pack) (hp : s.streams.pack = some p) (hin : s.addr.inPack p = true) :
    s.packHere = p ∧ s.sealOther = s := by
  simp [State.packHere, State.sealOther, hp, hin]

/-- The open pack of another page or block is sealed, and the byte opens a new one (R32). -/
theorem State.packHere_other (s : State) (p : Pack) (hp : s.streams.pack = some p) (hin : s.addr.inPack p = false) :
    s.packHere = s.addr.newPack ∧ s.sealOther = s.seal := by
  simp [State.packHere, State.sealOther, hp, hin]

/-- Settles O15: where the byte goes is decided by the open pack, and whether it is sealed by `Pack.put_full_iff`. -/
theorem dataBytesAreMergedAndStep : Obligations.DataBytesAreMergedAndStep := by
  refine ⟨Addressing.stepMajor_eq, ?_, ?_⟩
  · intro s e b he hr hs hraised
    have hat := exec_dataByte s e b he hr hs
    refine ⟨?_, ?_, ?_⟩
    · intro hd
      rw [hat, if_neg hd]
      exact congrArg _ (State.logBatch_raise e.touched _ hr hraised)
    · intro hd hp
      have hnone : e.touched.streams.pack = none := hp
      rw [hat, if_pos hd, State.mergeByte_open e.touched b e.addr.newPack (by simp [State.sealOther, hnone])
        (by simp [State.packHere, hnone]; rfl) (e.addr.newPack_not_full _ b)]
      exact congrArg _ (State.logBatch_nothing _ hraised)
    · rintro p hd hp hpage hblock ⟨i, hi, hempty⟩
      have hin : e.addr.inPack p = true := by simp [Addressing.inPack, hpage, hblock]
      have hfull : (p.put e.addr.offCtr b).full = false := by
        rw [Bool.eq_false_iff, Ne, Pack.put_full_iff]
        intro h
        simpa [hempty] using h i hi
      obtain ⟨hhere, hother⟩ := State.packHere_same e.touched p hp hin
      rw [hat, if_pos hd, State.mergeByte_open e.touched b p hother hhere hfull]
      exact congrArg _ (State.logBatch_nothing _ hraised)
  · intro s e b p he hr hs hraised hd hp hc hv hw hx hq
    have hat := exec_dataByte s e b he hr hs
    rw [if_pos hd] at hat
    constructor
    · intro helse
      have hin : e.addr.inPack p = false := by
        simpa [Addressing.inPack, Bool.eq_false_iff] using helse
      obtain ⟨hhere, hother⟩ := State.packHere_other e.touched p hp hin
      rw [hat, State.mergeByte, hhere, hother,
        State.seal_span_free e.touched (e.mapEntry p.page) p hp rfl hc hv hw hx hq,
        if_neg (by rw [Bool.not_eq_true]; exact e.addr.newPack_not_full _ b)]
      exact congrArg _ (State.logBatch_nothing _ hraised)
    · intro hpage hblock hall
      have hin : e.addr.inPack p = true := by simp [Addressing.inPack, hpage, hblock]
      obtain ⟨hhere, hother⟩ := State.packHere_same e.touched p hp hin
      have hfull : (p.put e.addr.offCtr b).full = true := (Pack.put_full_iff p e.addr.offCtr b).mpr hall
      have haddr : e.touched.addr = e.addr := rfl
      rw [hat, State.mergeByte, hhere, hother, haddr, if_pos hfull,
        State.seal_span_free (e.touched.setPack (p.put e.addr.offCtr b)) (e.mapEntry p.page) (p.put e.addr.offCtr b) rfl
          rfl hc hv hw hx hq]
      exact congrArg _ (State.logBatch_nothing _ hraised)

end Sys2Proof.Machine
end

section
/-! PROOF. Data reads: the report buffer, the Read Buffers, and what a served read leads to. -/

namespace Sys2Proof.Machine

/-! ### Leaving the unit (R41) -/

/-- A step stays in its unit in PAGE-MAJOR where the page counter stays, in OFFSET-MAJOR where the block does (R41). -/
theorem Addressing.leftUnit_iff (before after : Addressing) :
    before.leftUnit after = true ↔
      ¬ if before.pageMajor = true then after.pageCtr = before.pageCtr
        else blockOf after.offCtr = blockOf before.offCtr := by
  cases h : before.pageMajor
  · simp [Addressing.leftUnit, h, eq_comm (a := blockOf after.offCtr)]
  · simp [Addressing.leftUnit, h, eq_comm (a := after.pageCtr)]

/-- A served read that stays in its unit only steps (R40). -/
theorem State.stepAndMove_stays (s : State) (h : s.addr.leftUnit s.addr.stepMajor = false) :
    s.stepAndMove = s.stepMajor := by
  simp [State.stepAndMove, h]

/-- A served read that leaves its unit goes on with the look-ahead buffer, unless that is EMPTY (R41). -/
theorem State.stepAndMove_ahead (s : State) (h : s.addr.leftUnit s.addr.stepMajor = true)
    (ha : s.streams.ahead.state ≠ .empty) :
    s.stepAndMove =
      (s.stepMajor.setCurrent { s.streams.ahead with opened := false }).setAhead .empty := by
  simp [State.stepAndMove, State.moveOn, h, ha]

/-- A served read that leaves its unit with the look-ahead buffer EMPTY makes a demand fetch (R41). -/
theorem State.stepAndMove_fetch (s : State) (h : s.addr.leftUnit s.addr.stepMajor = true)
    (ha : s.streams.ahead.state = .empty) : s.stepAndMove = (s.stepMajor.setCurrent .empty).demandFetch := by
  simp [State.stepAndMove, State.moveOn, h, ha]

/-- A demand fetch from a SPAN page that may be read, with a free queue entry (R35, R38). -/
theorem State.demandFetch_span_free (s : State) (m : MapEntry) (hm : m = s.mapEntry s.addr.pageCtr)
    (hc : m.classify = .clean) (hv : m.valid = true) (hr : m.mayRead = true) (hx : m.toExchange = false)
    (hq : s.engine.queue.length < 8) :
    s.demandFetch =
      State.queued
        (fetchRequest .hostFetch s.addr.unitWords
          { dest := .span (m.frame ++ s.addr.unitFirst), confirm := m.confirm, prefetch := m.prefetch
            reread := m.reread }
          s.addr.pageCtr s.addr.offCtr s.sched.serial)
        (s.setCurrent (unitBuffer (.fetching s.sched.serial) s.addr.pageCtr s.addr.unitFirst)).numbered := by
  rw [State.demandFetch_span s m hm hc hv hr hx]
  exact State.place_free _ _ hq

/-! ### The look-ahead (R42) -/

/-- The next unit in each direction of each axis, where the stream does not end (R42, condition 2). -/
theorem Addressing.nextUnit_of_direction (a : Addressing) (page first reached unit : Byte)
    (hunit : unit = a.offCtr &&& 0xE0#8)
    (h : a.pageMajor = false ∧ a.offDec = false ∧ unit ≠ 0xE0#8 ∧ page = a.pageCtr ∧ first = unit + 32#8 ∧
          reached = first ∨
        a.pageMajor = false ∧ a.offDec = true ∧ unit ≠ 0x00#8 ∧ page = a.pageCtr ∧ first = unit - 32#8 ∧
          reached = unit - 1#8 ∨
        a.pageMajor = true ∧ a.pageDec = false ∧ a.pageCtr ≠ a.high ∧
          page = a.pageCtr + 1#8 ∧ first = a.offCtr &&& 0xFC#8 ∧ reached = a.offCtr ∨
        a.pageMajor = true ∧ a.pageDec = true ∧ a.pageCtr ≠ a.low ∧
          page = a.pageCtr - 1#8 ∧ first = a.offCtr &&& 0xFC#8 ∧ reached = a.offCtr) :
    a.nextUnit = some (page, first, reached) := by
  subst hunit
  rcases h with ⟨hmajor, hdec, hlast, rfl, rfl, rfl⟩ | ⟨hmajor, hdec, hlast, rfl, rfl, rfl⟩ |
      ⟨hmajor, hdec, hlast, rfl, rfl, rfl⟩ | ⟨hmajor, hdec, hlast, rfl, rfl, rfl⟩
  · simp [Addressing.nextUnit, Addressing.unitFirst, hmajor, hdec, hlast]
  · simp [Addressing.nextUnit, Addressing.unitFirst, hmajor, hdec, hlast]
  · simp [Addressing.nextUnit, Addressing.unitFirst, Addressing.pageLock, oneOn, hmajor, hdec, hlast]
  · simp [Addressing.nextUnit, Addressing.unitFirst, Addressing.pageLock, oneOn, hmajor, hdec, hlast]

/-- The look-ahead to a SPAN page that may be read, with a free queue entry: its fetch where the page has PREFETCH, and
nothing where it has not (R42). -/
theorem State.lookAhead_span (s : State) (m : MapEntry) (page first reached : Byte)
    (ha : s.streams.ahead.state = .empty) (hn : s.addr.nextUnit = some (page, first, reached))
    (hq : s.engine.queue.length < 8) (hs : s.streams.staging = none) (hm : m = s.mapEntry page)
    (hc : m.classify = .clean) (hv : m.valid = true) (hr : m.mayRead = true) (hx : m.toExchange = false) :
    s.lookAhead =
      if m.prefetch then
        State.queued
          (fetchRequest .lookahead s.addr.unitWords
            { dest := .span (m.frame ++ first), confirm := m.confirm, prefetch := m.prefetch, reread := m.reread }
            page reached s.sched.serial)
          (s.setAhead (unitBuffer (.fetching s.sched.serial) page first)).numbered
      else s := by
  subst hm
  have htranslate := State.translate_ok s page first .read true page reached _ hc
    (MapEntry.resolve_span _ _ .read hv hr hx)
  have hfree : (s.freeEntry && s.streams.staging.isNone) = true := by simp [State.freeEntry, hq, hs]
  simp only [State.lookAhead, if_pos ha, hn, if_pos hfree, htranslate]
  rfl

/-! ### Serving a data read (R40) -/

/-- A VALID unit that has been read from before serves its byte (R40). -/
theorem State.serveRead_opened (s : State) (data : List Byte) (hv : s.streams.current.state = .valid data)
    (ho : s.streams.current.opened = true) :
    s.serveRead = (s.stepAndMove, unitByte data s.streams.current.first s.addr.offCtr) := by
  simp [State.serveRead, hv, ho]

/-- The first read of a VALID unit makes the look-ahead test (R40, R42). -/
theorem State.serveRead_first (s : State) (data : List Byte) (hv : s.streams.current.state = .valid data)
    (ho : s.streams.current.opened = false) :
    s.serveRead = (s.openCurrent.lookAhead.stepAndMove, unitByte data s.streams.current.first s.addr.offCtr) := by
  simp [State.serveRead, hv, ho]

/-- A FAILED unit serves 00h (R40). -/
theorem State.serveRead_failed (s : State) (hf : s.streams.current.state = .failed) :
    s.serveRead = (s.openCurrent.stepAndMove, 0#8) := by
  simp [State.serveRead, hf]

/-- A unit that is not there yet serves 00h with UNDERRUN (R40). -/
theorem State.serveRead_underrun (s : State)
    (h : (∃ n, s.streams.current.state = .fetching n) ∨ s.streams.current.state = .empty) :
    s.serveRead = (s.raise (windowUnderrun s.addr), 0#8) := by
  rcases h with ⟨n, h⟩ | h <;> simp [State.serveRead, h]

/-- Setting a mark that is set changes nothing. -/
theorem State.openCurrent_opened (s : State) (ho : s.streams.current.opened = true) : s.openCurrent = s := by
  have hmark : ({ s.streams.current with opened := true } : ReadBuffer) = s.streams.current := by rw [← ho]
  unfold State.openCurrent
  rw [hmark]
  rfl

/-- A data read at a running bridge, once the byte and the state after it are known and no fault is raised (R14). -/
theorem exec_dataRead_served (s e t : State) (byte : Byte) (he : e = s.atHost) (hr : e.running = true)
    (hserved : e.touched.serveDataRead = (t, byte)) (hraised : t.raised = []) :
    exec .dataRead s = .next (t.drove byte) := by
  rw [exec_dataRead s e he hr, hserved, State.logBatch_nothing t hraised]

/-- In READ STREAM the Read Buffers serve the read (R14). -/
theorem State.serveDataRead_readStream (e : State) (hd : e.host.decoder = .readStream) :
    e.touched.serveDataRead = e.touched.serveRead := by
  have hdecoder : e.touched.host.decoder = .readStream := hd
  rw [State.serveDataRead, hdecoder]

/-- A data read that is refused with a fault and 00h (R14). -/
theorem exec_dataRead_refused (s e : State) (f : FaultRecord) (he : e = s.atHost) (hr : e.running = true)
    (hraised : e.raised = []) (hserved : e.touched.serveDataRead = (e.touched.raise f, 0#8)) :
    exec .dataRead s = .next ((e.touched.logged f).drove 0x00#8) := by
  rw [exec_dataRead s e he hr, hserved]
  exact congrArg (fun t => Host.Outcome.next (State.drove 0x00#8 t)) (State.logBatch_raise e.touched f hr hraised)

/-- Data reads in IDLE, COLLECTING and REPORT, and underruns in READ STREAM (R14, R20, R40). -/
theorem dataRead_outside_units (s e : State) (he : e = s.atHost) (hr : e.running = true) (hraised : e.raised = []) :
    (e.host.decoder = .idle ∨ e.host.decoder = .collecting →
      exec .dataRead s = .next ((e.touched.logged (hostFault .protocol)).drove 0x00#8)) ∧
    (∀ i : Fin 16, e.host.decoder = .report → e.host.reportPointer = i.val → i.val < e.host.reportLength →
      exec .dataRead s = .next
        (State.drove (e.host.report.get i)
          { e.touched with host := { e.touched.host with reportPointer := i.val + 1 } })) ∧
    (e.host.decoder = .report → e.host.reportLength ≤ e.host.reportPointer →
      exec .dataRead s = .next ((e.touched.logged (hostFault .underrun)).drove 0x00#8)) ∧
    (e.host.decoder = .readStream →
      ((∃ n, e.streams.current.state = .fetching n) ∨ e.streams.current.state = .empty) →
      exec .dataRead s = .next ((e.touched.logged (windowUnderrun e.addr)).drove 0x00#8)) := by
  have hdecoder : e.touched.host.decoder = e.host.decoder := rfl
  refine ⟨?_, ?_, ?_, ?_⟩
  · intro hd
    refine exec_dataRead_refused s e _ he hr hraised ?_
    rcases hd with hd | hd <;> rw [State.serveDataRead, hdecoder, hd]
  · intro i hd hpointer hlt
    have hin : e.touched.host.reportPointer < e.touched.host.reportLength := by
      show e.host.reportPointer < e.host.reportLength
      omega
    have hbyte : e.touched.host.reportByte = e.host.report.get i := by
      show e.host.report.toList.getD e.host.reportPointer 0#8 = _
      simp [hpointer, Vector.get_eq_getElem]
    refine exec_dataRead_served s e _ _ he hr ?_ hraised
    rw [State.serveDataRead, hdecoder, hd]
    simp only [State.readReport, if_pos hin, hbyte, ← hpointer]
    rfl
  · intro hd hle
    refine exec_dataRead_refused s e _ he hr hraised ?_
    rw [State.serveDataRead, hdecoder, hd]
    exact if_neg (Nat.not_lt.mpr hle)
  · intro hd hempty
    refine exec_dataRead_refused s e _ he hr hraised ?_
    rw [State.serveDataRead_readStream e hd]
    exact State.serveRead_underrun e.touched hempty

/-- Settles O16: a served read opens the unit, looks ahead at its first read, steps, and moves on if it left it. -/
theorem dataReadsAreServed : Obligations.DataReadsAreServed := by
  refine ⟨fun s e he hr hraised => dataRead_outside_units s e he hr hraised, ?_⟩
  intro s e next stays byte cur he hr hraised hd hnext hstays hcur
  subst hnext hcur
  have hin : stays → e.addr.leftUnit e.addr.stepMajor = false := fun h => by
    rw [Bool.eq_false_iff, Ne, Addressing.leftUnit_iff, not_not]
    exact hstays.mp h
  have hout : ¬stays → e.addr.leftUnit e.addr.stepMajor = true := fun h =>
    (Addressing.leftUnit_iff _ _).mpr fun hc => h (hstays.mpr hc)
  have hserve := State.serveDataRead_readStream e hd
  constructor
  · intro hunit
    have hopened : e.touched.serveRead = (e.touched.openCurrent.stepAndMove, byte) := by
      rcases hunit with ⟨ho, data, hv, rfl⟩ | ⟨hf, rfl⟩
      · rw [State.serveRead_opened e.touched data hv ho, State.openCurrent_opened e.touched ho]
        rfl
      · exact State.serveRead_failed e.touched hf
    rw [hopened] at hserve
    refine ⟨?_, ?_, ?_⟩
    · intro h
      rw [State.stepAndMove_stays e.touched.openCurrent (hin h)] at hserve
      exact exec_dataRead_served s e _ byte he hr hserve hraised
    · intro h hahead
      rw [State.stepAndMove_ahead e.touched.openCurrent (hout h) hahead] at hserve
      exact exec_dataRead_served s e _ byte he hr hserve hraised
    · intro m first h hahead hm hfirst hc hv hmr hx hq
      subst hfirst
      rw [State.stepAndMove_fetch e.touched.openCurrent (hout h) hahead,
        State.demandFetch_span_free (e.touched.openCurrent.stepMajor.setCurrent .empty) m hm hc hv hmr hx hq] at hserve
      exact exec_dataRead_served s e _ byte he hr hserve hraised
  · intro data page first reached unit m buffer r hv ho hahead hbyte hunit hdirection hm hc hvalid hmr hx hq hs hbuffer
      hrq
    subst hbyte hbuffer hrq
    have hnext : e.addr.nextUnit = some (page, first, reached) :=
      e.addr.nextUnit_of_direction page first reached unit hunit hdirection
    rw [State.serveRead_first e.touched data hv ho,
      State.lookAhead_span e.touched.openCurrent m page first reached hahead hnext hq hs hm hc hvalid hmr hx] at hserve
    refine ⟨?_, ?_, ?_⟩
    · intro hprefetch h
      rw [if_pos hprefetch, State.stepAndMove_stays] at hserve
      · exact exec_dataRead_served s e _ _ he hr hserve hraised
      · exact hin h
    · intro hprefetch h
      rw [if_pos hprefetch, State.stepAndMove_ahead] at hserve
      · exact exec_dataRead_served s e _ _ he hr hserve hraised
      · exact hout h
      · exact BufferState.noConfusion
    · intro hprefetch h
      rw [if_neg (by simp [hprefetch]), State.stepAndMove_stays e.touched.openCurrent (hin h)] at hserve
      exact exec_dataRead_served s e _ _ he hr hserve hraised

end Sys2Proof.Machine
end

section
/-! PROOF. What every step keeps of the addressing state: the relations of R21. -/

namespace Sys2Proof.Machine

/-! ### The window relations (R21) under the addressing commands -/

/-- A page lies between the limits (R21). -/
theorem Addressing.within_iff (a : Addressing) (page : Byte) :
    a.within page = true ↔ a.low ≤ page ∧ page ≤ a.high := by simp [Addressing.within]

/-- The relations speak of the limits, the page register and the page counter alone. -/
theorem Addressing.bounded.of_same {a b : Addressing} (h : a.bounded)
    (same : b.low = a.low ∧ b.high = a.high ∧ b.pageReg = a.pageReg ∧ b.pageCtr = a.pageCtr) : b.bounded := by
  obtain ⟨hlow, hhigh, hreg, hctr⟩ := same
  unfold Addressing.bounded
  rw [hlow, hhigh, hreg, hctr]
  exact h

/-- A page counter that is not at the limit of its direction steps to a page within the limits (R22). -/
theorem oneOn_within {low high page : Byte} (dec : Bool) (hlow : low ≤ page) (hhigh : page ≤ high)
    (hlock : page ≠ if dec then low else high) : low ≤ oneOn dec page ∧ oneOn dec page ≤ high := by
  cases dec
  · simp only [oneOn, Bool.false_eq_true, if_false] at hlock ⊢
    bv_omega
  · simp only [oneOn, if_true] at hlock ⊢
    bv_omega

/-- A step of the page counter (R22). -/
theorem Addressing.bounded.stepPage {a : Addressing} (h : a.bounded) : a.stepPage.bounded := by
  obtain ⟨hlimits, hreg, hctr⟩ := id h
  unfold Addressing.stepPage
  split
  · exact h.of_same ⟨rfl, rfl, rfl, rfl⟩
  next hlock => exact ⟨hlimits, hreg, oneOn_within a.pageDec hctr.1 hctr.2 hlock⟩

/-- A step of the offset counter (R22). -/
theorem Addressing.bounded.stepOffset {a : Addressing} (h : a.bounded) : a.stepOffset.bounded := by
  unfold Addressing.stepOffset
  split <;> exact h.of_same ⟨rfl, rfl, rfl, rfl⟩

/-- A step of the major counter (R22). -/
theorem Addressing.bounded.stepMajor {a : Addressing} (h : a.bounded) : a.stepMajor.bounded := by
  unfold Addressing.stepMajor
  split
  · exact h.stepPage
  · exact h.stepOffset

/-- The page counter takes the value of the page register (R28, R29). -/
theorem Addressing.bounded.of_reload {a b : Addressing} (h : a.bounded)
    (same : b.low = a.low ∧ b.high = a.high ∧ b.pageReg = a.pageReg ∧ b.pageCtr = a.pageReg) : b.bounded := by
  obtain ⟨hlow, hhigh, hreg, hctr⟩ := same
  obtain ⟨hlimits, hwithin, -⟩ := h
  unfold Addressing.bounded
  rw [hlow, hhigh, hreg, hctr]
  exact ⟨hlimits, hwithin, hwithin⟩

/-- SET PAGE, where its check passes (R23). -/
theorem Addressing.bounded.setPage {a b : Addressing} (page : Byte) (h : a.bounded) (hb : a.setPage page = some b) :
    b.bounded := by
  unfold Addressing.setPage at hb
  split at hb
  next hwithin =>
    obtain rfl := Option.some.inj hb
    have hpage := (a.within_iff page).mp hwithin
    exact ⟨h.1, hpage, hpage⟩
  · cases hb

/-- SET ADDRESS, where the check of the page passes (R25). -/
theorem Addressing.bounded.setAddress {a b : Addressing} (page offset : Byte) (h : a.bounded)
    (hb : a.setAddress page offset = some b) : b.bounded := by
  obtain ⟨c, hc, rfl⟩ := Option.map_eq_some_iff.mp hb
  exact (h.setPage page hc).of_same ⟨rfl, rfl, rfl, rfl⟩

/-- WINDOW LIMIT, with high not less than low (R27): whatever the relations were before. -/
theorem Addressing.setLimits_bounded (a : Addressing) {low high : Byte} (hle : low ≤ high) :
    (a.setLimits low high).bounded := by
  unfold Addressing.setLimits
  simp only
  split
  next hwithin =>
    obtain ⟨hreg, hctr⟩ := Bool.and_eq_true_iff.mp hwithin
    exact ⟨hle, (Addressing.within_iff _ _).mp hreg, (Addressing.within_iff _ _).mp hctr⟩
  · exact ⟨hle, ⟨BitVec.le_refl low, hle⟩, BitVec.le_refl low, hle⟩

/-- NEXT LINE (R28). -/
theorem Addressing.bounded.nextLine {a : Addressing} (h : a.bounded) : a.nextLine.bounded := by
  unfold Addressing.nextLine
  split
  · have hreloaded : ({ a with pageCtr := a.pageReg, pageEdge := false } : Addressing).bounded :=
      h.of_reload ⟨rfl, rfl, rfl, rfl⟩
    exact hreloaded.stepOffset
  · have hsame : ({ a with offCtr := a.offReg, offEdge := false } : Addressing).bounded :=
      h.of_same ⟨rfl, rfl, rfl, rfl⟩
    exact hsame.stepPage

/-- CLEAR COUNTERS (R30). -/
theorem Addressing.bounded.clear {a : Addressing} (h : a.bounded) : a.clear.bounded :=
  ⟨h.1, ⟨BitVec.le_refl a.low, h.1⟩, BitVec.le_refl a.low, h.1⟩

/-- The page that a cancelled SET ADDRESS keeps (R8). -/
theorem Addressing.bounded.storePage {a : Addressing} (page : Byte) (h : a.bounded) : (a.storePage page).bounded := by
  unfold Addressing.storePage
  split
  next hwithin => exact ⟨h.1, (a.within_iff page).mp hwithin, h.2.2⟩
  · exact h

/-- The values of reset (section 11.4). -/
theorem Addressing.reset_bounded : Addressing.reset.bounded := by unfold Addressing.bounded; decide

/-! ### The window relations under the commands (section 1.3) -/

/-- A command that loads what one of the operations gives, where its check passes, keeps the relations. -/
theorem State.setAddr_bounded {s : State} {a : Option Addressing} (h : s.addr.bounded)
    (ha : ∀ b, a = some b → b.bounded) : (s.setAddr a).addr.bounded := by
  cases a with
  | none => simpa [State.setAddr] using h
  | some b => exact ha b rfl

/-- Loading an addressing state that has the relations. -/
theorem State.setAddr_some_bounded {s : State} {a : Addressing} (ha : a.bounded) :
    (s.setAddr (some a)).addr.bounded := ha

/-- Every command (section 1.3). -/
theorem State.execute_bounded {s : State} (c : Command) (ps : List Byte) (h : s.addr.bounded) :
    (s.execute c ps).addr.bounded := by
  cases c with
  | setPage => exact State.setAddr_bounded h fun b hb => h.setPage _ hb
  | setAddress => exact State.setAddr_bounded h fun b hb => h.setAddress _ _ hb
  | setOffset => exact State.setAddr_some_bounded (h.of_same ⟨rfl, rfl, rfl, rfl⟩)
  | direction =>
    simp only [State.execute, State.directionCmd]
    split
    · exact State.setAddr_some_bounded (h.of_same ⟨rfl, rfl, rfl, rfl⟩)
    · simpa using h
  | windowLimit =>
    simp only [State.execute, State.windowLimitCmd]
    split
    next hle => exact State.setAddr_some_bounded (s.addr.setLimits_bounded hle)
    · simpa using h
  | nextLine => exact State.setAddr_some_bounded h.nextLine
  | reload => exact State.setAddr_some_bounded (h.of_reload ⟨rfl, rfl, rfl, rfl⟩)
  | clearCounters => exact State.setAddr_some_bounded h.clear
  | restart => exact Addressing.reset_bounded
  | mapWrite =>
    simp only [State.execute]
    split <;> simpa using h
  | nop | writeStream | readStream | drain | fetchLock | storeUnlock | releaseLock | mapRead | gateWrite | gateRead
  | set | report | takeNotice | sendNotice | sendRecall | faultRelease | faultClear | abort | sleep | wake =>
    simpa [State.execute] using h

/-! ### The window relations under host cycles (chapter 1) -/

/-- The cancelling of a collection (R8). -/
theorem State.cancelCollection_bounded {s : State} (h : s.addr.bounded) : s.cancelCollection.addr.bounded := by
  unfold State.cancelCollection
  split
  next c _ =>
    have hkept : (c.keepsPage s.dropCollection).addr.bounded := by
      unfold Collected.keepsPage
      split
      · exact h.storePage _
      · exact h
    simpa using hkept
  · exact h

/-- The prelude of a command byte (R5). -/
theorem State.commandPrelude_bounded {s : State} (skipSeal : Bool) (h : s.addr.bounded) :
    (s.commandPrelude skipSeal).addr.bounded := by
  refine State.cancelCollection_bounded ?_
  cases skipSeal <;> simpa using h

/-- Decoding a command byte (R5). -/
theorem State.decode_bounded {s : State} (c : Option Command) (h : s.addr.bounded) : (s.decode c).addr.bounded := by
  cases c with
  | none => simpa [State.decode] using h
  | some c =>
    simp only [State.decode]
    split
    · exact State.execute_bounded c [] h
    · simpa using h

/-- A command byte (R5, R6, R12). -/
theorem State.commandByte_bounded {s : State} (b : Byte) (h : s.addr.bounded) : (s.commandByte b).addr.bounded := by
  unfold State.commandByte
  split
  · simpa using h
  · split
    · unfold State.restartByte
      split
      · exact Addressing.reset_bounded
      · simpa using h
    · exact State.decode_bounded _ (State.commandPrelude_bounded _ (by simpa using h))

/-- A parameter byte (R7). -/
theorem State.parameter_bounded {s : State} (b : Byte) (h : s.addr.bounded) : (s.parameter b).addr.bounded := by
  unfold State.parameter
  split
  · exact h
  · split
    · exact State.execute_bounded _ _ (by simpa using h)
    · simpa using h

/-- A write with CD = 1 (R10). -/
theorem State.writeCommand_bounded {s : State} (b : Byte) (h : s.addr.bounded) :
    (s.writeCommand b).addr.bounded := by
  unfold State.writeCommand
  split
  · exact h
  · split
    · split
      · exact State.commandByte_bounded b (by simpa using h)
      · simpa using h
    · split
      · exact State.parameter_bounded b (by simpa using h)
      · exact State.commandByte_bounded b h

/-- A merged data byte steps the major counter and leaves the rest of the addressing state alone (R32). -/
theorem State.mergeByte_addr (s : State) (b : Byte) : (s.mergeByte b).addr = s.addr.stepMajor := by
  unfold State.mergeByte
  simp only [State.stepMajor_addr]
  split <;> simp

/-- A write with CD = 0 (R13). -/
theorem State.writeData_bounded {s : State} (b : Byte) (h : s.addr.bounded) : (s.writeData b).addr.bounded := by
  unfold State.writeData
  split
  · exact h
  · split
    · simpa using h
    · split
      · rw [State.mergeByte_addr]
        exact h.stepMajor
      · simpa using h

/-- A served read steps the major counter, wherever the step leads (R40, R41). -/
theorem State.stepAndMove_addr (s : State) : s.stepAndMove.addr = s.addr.stepMajor := by
  unfold State.stepAndMove
  simp only
  split <;> simp

/-- A data read in READ STREAM (R40). -/
theorem State.serveRead_bounded {s : State} (h : s.addr.bounded) : s.serveRead.1.addr.bounded := by
  unfold State.serveRead
  split
  · simp only [State.stepAndMove_addr]
    split
    · exact h.stepMajor
    · simpa using h.stepMajor
  · simpa [State.stepAndMove_addr] using h.stepMajor
  · simpa using h
  · simpa using h

/-- A read with CD = 0 (R14). -/
theorem State.readData_bounded {s : State} (h : s.addr.bounded) : s.readData.addr.bounded := by
  have hserved : (s.setHalf false).serveDataRead.1.addr.bounded := by
    unfold State.serveDataRead
    split
    · exact State.serveRead_bounded (by simpa using h)
    · simpa using h
    · simpa using h
    · simpa using h
    · simpa using h
  unfold State.readData
  split
  · simpa using hserved
  · simpa using h

/-- A host cycle in its place in the step (R164). -/
theorem State.hostCycle_bounded {s : State} {f : State → State}
    (hf : ∀ t : State, t.addr.bounded → (f t).addr.bounded) (h : s.addr.bounded) : (s.hostCycle f).addr.bounded := by
  have hdone : (f ((s.enter .host).select true)).addr.bounded := hf _ (by simpa using h)
  simpa [State.hostCycle] using hdone

/-- Successive writes with CD = 1. -/
theorem State.hostWrites_bounded {s : State} (bs : List Byte) (h : s.addr.bounded) :
    (s.hostWrites bs).addr.bounded := by
  induction bs generalizing s with
  | nil => exact h
  | cons b bs ih => exact ih (State.hostCycle_bounded (fun _ ht => State.writeCommand_bounded b ht) h)

/-! ### The window relations under every event -/

/-- A received packet leaves the addressing state alone where its handling does. -/
theorem State.packetEvent_addr (s : State) (f : State → State) (hf : ∀ t : State, (f t).addr = t.addr) :
    (s.packetEvent f).addr = s.addr := by simp [State.packetEvent, hf]

/-- Only host cycles and the end of initialization touch the addressing state, and they keep the relations. -/
theorem exec_bounded (i : Instr) (s : State) (h : s.addr.bounded) : ∃ t, exec i s = .next t ∧ t.addr.bounded := by
  have hwrite : ∀ b, (s.hostWrite b).addr.bounded := fun b =>
    State.hostCycle_bounded (fun _ ht => State.writeCommand_bounded b ht) h
  cases i with
  | nop | unknownCommandByte | nextLine | reload | clearCounters | writeStream | readStream | drain | fetchLock
  | releaseLock | takeNotice | faultRelease | abort | restartFirstByte | sleep | wake | parameterByte | restart =>
    exact ⟨_, rfl, hwrite _⟩
  | setPage | setOffset | setAddress | direction | windowLimit | storeUnlock | mapWrite | mapRead | gateWrite | gateRead
  | set | sendNotice | sendRecall | faultClear | reportCounters | reportFault | reportSummary | reportEngine
  | reportStatistics | reportSetting | reportLock | reportTaken =>
    exact ⟨_, rfl, State.hostWrites_bounded _ h⟩
  | reportIdentity => exact ⟨_, rfl, State.hostWrites_bounded _ (by simpa using h)⟩
  | dataByte => exact ⟨_, rfl, State.hostCycle_bounded (fun _ ht => State.writeData_bounded _ ht) h⟩
  | dataRead => exact ⟨_, rfl, State.hostCycle_bounded (fun _ ht => State.readData_bounded ht) h⟩
  | resetInitializationEnd =>
    refine ⟨_, rfl, ?_⟩
    unfold State.endInitialization
    split
    · exact Addressing.reset_bounded
    · exact h
    · exact h
  | csRelease | powerOnReset | pinReset | resetEnd | mapUpset | sendTurn | responseTimerExpiry | sendPointRetryExpiry
  | lockFetchRetryExpiry | reportRetryExpiry | beatRetryExpiry | exchangeFetchRetryExpiry | nodeHoldExpiry
  | hostHoldExpiry | claimTimerExpiry | quarantineExpiry | headToSendPoint | localRequestGrant | exchangeLockAttempt
  | inboundReadGrant | inboundWriteGrant | inboundLockReadGrant | inboundUnlockWriteGrant | stagedRequestEntry
  | waitingLockRequestPlacement =>
    exact ⟨_, rfl, by simpa using h⟩
  | inboundMemoryRequest | inboundNotice | inboundRecall | inboundFaultReport | beat =>
    exact ⟨_, rfl, by rw [State.packetEvent_addr s _ fun t => by simp]; exact h⟩
  | sendPointReceipt | reportQueueReceipt | beatReceipt | abandonedOfferReceipt | orphanedReceipt =>
    refine ⟨_, rfl, ?_⟩
    split
    · rw [State.packetEvent_addr s _ fun t => by simp]
      exact h
    · exact h
  | spanResetAssertion =>
    refine ⟨_, rfl, ?_⟩
    split
    · exact h
    · split <;> simpa using h
  | drainComplete | spanResetDeassertion | claimLineChange | claimDriveAfterWait | tickBoundary =>
    refine ⟨_, rfl, ?_⟩
    split <;> simpa using h

/-- Settles O56: every command keeps the relations, and so does the end of a step on an empty queue. -/
theorem everyStepKeepsTheWindowRelations : Obligations.EveryStepKeepsTheWindowRelations := by
  intro s t h hstep
  unfold step at hstep
  split at hstep
  · obtain rfl := Host.Outcome.next.inj hstep
    simpa using h
  next c rest _ =>
    obtain ⟨u, hu, hbounded⟩ := exec_bounded c (s.withPending rest) h
    obtain rfl := Host.Outcome.next.inj (hu.symm.trans hstep)
    exact hbounded

end Sys2Proof.Machine
end

section
/-! PROOF. The addressing commands at a ready bridge, with everything they leave alone. -/

namespace Sys2Proof.Machine

/-! ### The addressing commands, written out (R23 to R28) -/

/-- SET PAGE with its check (R23). -/
theorem Addressing.setPage_eq (a : Addressing) (page : Byte) :
    a.setPage page =
      if a.low ≤ page ∧ page ≤ a.high then some { a with pageReg := page, pageCtr := page, pageEdge := false }
      else none := by
  simp [Addressing.setPage, Addressing.within]

/-- SET ADDRESS with the check of the page (R25). -/
theorem Addressing.setAddress_eq (a : Addressing) (page offset : Byte) :
    a.setAddress page offset =
      if a.low ≤ page ∧ page ≤ a.high then
        some { a with pageReg := page, pageCtr := page, pageEdge := false
                      offReg := offset, offCtr := offset, offEdge := false }
      else none := by
  rw [Addressing.setAddress, Addressing.setPage_eq]
  split <;> rfl

/-- WINDOW LIMIT past its check: the low limit replaces a page register and counter of which one lies outside (R27). -/
theorem Addressing.setLimits_eq (a : Addressing) (low high : Byte) :
    a.setLimits low high =
      if low ≤ a.pageReg ∧ a.pageReg ≤ high ∧ low ≤ a.pageCtr ∧ a.pageCtr ≤ high then
        { a with low := low, high := high, pageEdge := false }
      else { a with low := low, high := high, pageEdge := false, pageReg := low, pageCtr := low } := by
  simp [Addressing.setLimits, Addressing.within, and_assoc]

/-- NEXT LINE in OFFSET-MAJOR (R28). -/
theorem Addressing.nextLine_offsetMajor (a : Addressing) (h : a.pageMajor = false) :
    a.nextLine =
      if a.pageCtr = (if a.pageDec then a.low else a.high) then
        { a with offCtr := a.offReg, offEdge := false, pageEdge := true }
      else
        { a with offCtr := a.offReg, offEdge := false
                 pageCtr := if a.pageDec then a.pageCtr - 1 else a.pageCtr + 1 } := by
  rw [Addressing.nextLine, if_neg (by simp [h])]
  rfl

/-- NEXT LINE in PAGE-MAJOR (R28). -/
theorem Addressing.nextLine_pageMajor (a : Addressing) (h : a.pageMajor = true) :
    a.nextLine =
      if a.offCtr = (if a.offDec then 0#8 else 255#8) then
        { a with pageCtr := a.pageReg, pageEdge := false, offEdge := true }
      else
        { a with pageCtr := a.pageReg, pageEdge := false
                 offCtr := if a.offDec then a.offCtr - 1 else a.offCtr + 1 } := by
  rw [Addressing.nextLine, if_pos h]
  rfl

/-! ### What they come to at a ready bridge -/

/-- A ready bridge logs PARAM_RANGE after its prelude (R7). -/
theorem State.readyForCommand.paramRange {e : State} (h : e.readyForCommand) :
    e.started.paramRange.logBatch = e.started.logged (hostFault .paramRange) :=
  State.logBatch_raise e.started _ h.runs h.started_raised

/-- A ready bridge takes a new addressing state after its prelude. -/
theorem State.readyForCommand.setAddr {e : State} (h : e.readyForCommand) (a : Addressing) :
    (e.started.setAddr (some a)).logBatch = { e.started with addr := a } :=
  State.logBatch_nothing _ h.started_raised

/-- A ready bridge takes a new addressing state if a check passes, and logs PARAM_RANGE if it fails (R7). -/
theorem State.readyForCommand.setAddr_checked {e : State} (h : e.readyForCommand) (p : Prop) [Decidable p]
    (a : Addressing) :
    (e.started.setAddr (if p then some a else none)).logBatch =
      if p then { e.started with addr := a } else e.started.logged (hostFault .paramRange) := by
  split
  · exact h.setAddr a
  · exact h.paramRange

/-- A ready bridge takes the one of two new addressing states that a test picks. -/
theorem State.readyForCommand.setAddr_ite {e : State} (h : e.readyForCommand) (p : Prop) [Decidable p]
    (a b : Addressing) :
    (e.started.setAddr (some (if p then a else b))).logBatch =
      if p then { e.started with addr := a } else { e.started with addr := b } := by
  split <;> exact h.setAddr _

/-- Settles O4: each of the three loads what its equation says, SET PAGE and SET ADDRESS behind the check of the
page. -/
theorem pageAndOffsetAreLoaded : Obligations.PageAndOffsetAreLoaded := by
  intro s e page offset he h
  refine ⟨?_, ?_, ?_⟩
  · show Host.Outcome.next (s.hostWrites (Command.setPage.byte :: [page])) = _
    rw [State.commands_ready s e .setPage [page] (by decide) he h rfl (by simp)]
    show Host.Outcome.next (e.started.setAddr (e.addr.setPage page)).logBatch = _
    rw [Addressing.setPage_eq, h.setAddr_checked]
  · show Host.Outcome.next (s.hostWrites (Command.setOffset.byte :: [offset])) = _
    rw [State.commands_ready s e .setOffset [offset] (by decide) he h rfl (by simp)]
    exact congrArg _ (h.setAddr (e.addr.setOffset offset))
  · show Host.Outcome.next (s.hostWrites (Command.setAddress.byte :: [page, offset])) = _
    rw [State.commands_ready s e .setAddress [page, offset] (by decide) he h rfl (by simp)]
    show Host.Outcome.next (e.started.setAddr (e.addr.setAddress page offset)).logBatch = _
    rw [Addressing.setAddress_eq, h.setAddr_checked]

/-- Settles O5: DIRECTION behind the check of its high bits, WINDOW LIMIT behind that of its limits. -/
theorem directionAndLimitsAreLoaded : Obligations.DirectionAndLimitsAreLoaded := by
  intro s e d low high he h
  constructor
  · show Host.Outcome.next (s.hostWrites (Command.direction.byte :: [d])) = _
    rw [State.commands_ready s e .direction [d] (by decide) he h rfl (by simp)]
    show Host.Outcome.next (e.started.directionCmd d).logBatch = _
    unfold State.directionCmd
    split
    · exact congrArg _ (h.setAddr (e.addr.setDirection d))
    · exact congrArg _ h.paramRange
  · show Host.Outcome.next (s.hostWrites (Command.windowLimit.byte :: [low, high])) = _
    rw [State.commands_ready s e .windowLimit [low, high] (by decide) he h rfl (by simp)]
    show Host.Outcome.next (e.started.windowLimitCmd low high).logBatch = _
    unfold State.windowLimitCmd
    by_cases hlt : high < low
    · rw [if_neg (BitVec.not_le.mpr hlt), if_pos hlt, h.paramRange]
    · rw [if_pos (BitVec.not_lt.mp hlt), if_neg hlt]
      show Host.Outcome.next (e.started.setAddr (some (e.addr.setLimits low high))).logBatch = _
      rw [Addressing.setLimits_eq, h.setAddr_ite]

/-- Settles O6: RELOAD and CLEAR COUNTERS load at once, NEXT LINE reloads one counter and steps the other. -/
theorem countersAreReloaded : Obligations.CountersAreReloaded := by
  intro s e he h
  refine ⟨?_, ?_, ?_, ?_⟩
  · show Host.Outcome.next (s.hostWrite Command.reload.byte) = _
    rw [State.command_ready s e .reload (by decide) he h rfl]
    exact congrArg _ (h.setAddr e.addr.reload)
  · show Host.Outcome.next (s.hostWrite Command.clearCounters.byte) = _
    rw [State.command_ready s e .clearCounters (by decide) he h rfl]
    exact congrArg _ (h.setAddr e.addr.clear)
  · intro hmajor
    show Host.Outcome.next (s.hostWrite Command.nextLine.byte) = _
    rw [State.command_ready s e .nextLine (by decide) he h rfl]
    show Host.Outcome.next (e.started.setAddr (some e.addr.nextLine)).logBatch = _
    rw [e.addr.nextLine_offsetMajor hmajor, h.setAddr_ite]
  · intro hmajor
    show Host.Outcome.next (s.hostWrite Command.nextLine.byte) = _
    rw [State.command_ready s e .nextLine (by decide) he h rfl]
    show Host.Outcome.next (e.started.setAddr (some e.addr.nextLine)).logBatch = _
    rw [e.addr.nextLine_pageMajor hmajor, h.setAddr_ite]

end Sys2Proof.Machine
end

section
/-! PROOF. The span of a sealed pack (R34). -/

namespace Sys2Proof.Machine

/-! ### The enabled positions of a pack -/

/-- The positions of a pack are the enabled ones. -/
theorem Pack.mem_positions (p : Pack) (k : Nat) :
    k ∈ p.positions ↔ ∃ i : Fin 32, (p.bytes.get i).isSome = true ∧ i.val = k := by
  simp [Pack.positions]

/-- The positions of a pack ascend. -/
theorem Pack.positions_ascend (p : Pack) : p.positions.Pairwise (· ≤ ·) := by
  refine (List.pairwise_lt_finRange 32).filterMap _ ?_
  intro i j hij k hk l hl
  simp at hk hl
  omega

/-- The lowest position is an enabled one, and none lies below it. -/
theorem Pack.lowest_least (p : Pack) (hne : p.positions ≠ []) :
    p.lowest ∈ p.positions ∧ ∀ k ∈ p.positions, p.lowest ≤ k := by
  have hhead : p.lowest = p.positions.head hne := by
    rw [Pack.lowest, List.headD_eq_head?_getD, List.head?_eq_some_head hne, Option.getD_some]
  rw [hhead]
  exact ⟨List.head_mem hne, fun _ hk => p.positions_ascend.rel_head hk⟩

/-- The highest position is an enabled one, and none lies above it. -/
theorem Pack.highest_greatest (p : Pack) (hne : p.positions ≠ []) :
    p.highest ∈ p.positions ∧ ∀ k ∈ p.positions, k ≤ p.highest := by
  have hlast : p.highest = p.positions.getLast hne := by
    rw [Pack.highest, List.getLastD_eq_getLast?, List.getLast?_eq_some_getLast hne, Option.getD_some]
  rw [hlast]
  exact ⟨List.getLast_mem hne, fun _ hk => p.positions_ascend.rel_getLast hk⟩

/-! ### The size of the span -/

/-- The four sizes of a span, each with the test that picks it. -/
theorem spanWords_cases (lo hi : Nat) :
    (spanWords lo hi = 1 ∧ lo = hi) ∨ (spanWords lo hi = 2 ∧ lo ≠ hi ∧ lo / 2 = hi / 2) ∨
      (spanWords lo hi = 4 ∧ lo / 2 ≠ hi / 2 ∧ lo / 4 = hi / 4) ∨ (spanWords lo hi = 8 ∧ lo / 4 ≠ hi / 4) := by
  unfold spanWords
  split_ifs <;> omega

/-- A span of the size that `spanWords` gives, aligned, that begins at or below the word `lo`, reaches the word `hi`
and stays in the block. -/
theorem spanWords_covers {lo hi : Nat} (hle : lo ≤ hi) (hhi : hi < 8) :
    lo / spanWords lo hi * spanWords lo hi ≤ lo ∧
      hi < lo / spanWords lo hi * spanWords lo hi + spanWords lo hi ∧
      lo / spanWords lo hi * spanWords lo hi + spanWords lo hi ≤ 8 := by
  rcases spanWords_cases lo hi with ⟨hw, h⟩ | ⟨hw, -, h⟩ | ⟨hw, -, h⟩ | ⟨hw, h⟩ <;> rw [hw] <;> omega

/-- An aligned span of `n` words that covers the positions `lo` and `hi` is no shorter than `spanWords` says. -/
theorem spanWords_least {lo hi n start : Nat} (hn : n = 1 ∨ n = 2 ∨ n = 4 ∨ n = 8) (hstart : start % (4 * n) = 0)
    (hlow : start ≤ lo) (hle : lo ≤ hi) (hhigh : hi < start + 4 * n) : spanWords (lo / 4) (hi / 4) ≤ n := by
  rcases spanWords_cases (lo / 4) (hi / 4) with ⟨hw, h⟩ | ⟨hw, h, -⟩ | ⟨hw, h, -⟩ | ⟨hw, h⟩ <;>
    rcases hn with rfl | rfl | rfl | rfl <;> omega

/-- The words of a pack's span are those between its lowest and its highest position. -/
theorem Pack.words_eq (p : Pack) : p.words = spanWords (p.lowest / 4) (p.highest / 4) := rfl

/-- Settles O8: the lowest and the highest position decide the span, and every enabled position lies between them. -/
theorem sealedSpanCoversThePack : Obligations.SealedSpanCoversThePack := by
  intro p ⟨i, hienabled⟩
  have hne : p.positions ≠ [] := List.ne_nil_of_mem ((p.mem_positions i.val).mpr ⟨i, hienabled, rfl⟩)
  obtain ⟨hlowMem, hlow⟩ := p.lowest_least hne
  obtain ⟨hhighMem, hhigh⟩ := p.highest_greatest hne
  obtain ⟨lo, hloOn, hlo⟩ := (p.mem_positions _).mp hlowMem
  obtain ⟨hi, hhiOn, hhi⟩ := (p.mem_positions _).mp hhighMem
  have hle : p.lowest ≤ p.highest := hlow _ hhighMem
  have hlt : p.highest < 32 := hhi ▸ hi.isLt
  obtain ⟨hbegin, hreach, hblock⟩ := spanWords_covers (lo := p.lowest / 4) (hi := p.highest / 4) (by omega) (by omega)
  rw [← p.words_eq] at hbegin hreach hblock
  have hstart : p.start = p.lowest / 4 / p.words * p.words * 4 := rfl
  refine ⟨?_, ?_, ?_, ?_, ?_⟩
  · rw [p.words_eq]
    rcases spanWords_cases (p.lowest / 4) (p.highest / 4) with ⟨hw, -⟩ | ⟨hw, -⟩ | ⟨hw, -⟩ | ⟨hw, -⟩ <;> simp [hw]
  · rw [hstart, Nat.mul_assoc, Nat.mul_comm p.words 4]
    exact Nat.mul_mod_left _ _
  · omega
  · intro j hj
    have hmem := (p.mem_positions j.val).mpr ⟨j, hj, rfl⟩
    have hjlow := hlow _ hmem
    have hjhigh := hhigh _ hmem
    omega
  · intro n start hn halign hcovers
    exact spanWords_least hn halign (hlo ▸ (hcovers lo hloOn).1) hle (hhi ▸ (hcovers hi hhiOn).2)

end Sys2Proof.Machine
end

section
/-! PROOF. READ STREAM and its demand fetch. -/

namespace Sys2Proof.Machine

/-! ### Where a demand fetch goes (R35, R38) -/

/-- A demand fetch from a page that is not VALID: MAP_INVALID and a FAILED buffer (R38, R50). -/
theorem State.demandFetch_invalid (s : State) (m : MapEntry) (hm : m = s.mapEntry s.addr.pageCtr)
    (hc : m.classify = .clean) (hv : m.valid = false) :
    s.demandFetch =
      (s.setCurrent (unitBuffer .failed s.addr.pageCtr s.addr.unitFirst)).raise
        (mapFault .mapInvalid .read s.addr.pageCtr s.addr.offCtr) := by
  subst hm
  have hresolve : (s.mapEntry s.addr.pageCtr).resolve s.addr.unitFirst .read = .error .mapInvalid := by
    simp [MapEntry.resolve, hv]
  simp only [State.demandFetch, State.translate_error _ _ _ _ _ _ _ _ hc hresolve]
  rfl

/-- With the queue full and the staging slot taken, a request becomes the deferred request (R35). -/
theorem State.place_deferred (r : Request) (s : State) (h : 8 ≤ s.engine.queue.length)
    (hs : s.streams.staging.isSome = true) :
    s.place r = { s with streams := { s.streams with deferred := some r } } := by
  obtain ⟨q, hq⟩ := Option.isSome_iff_exists.mp hs
  simp [State.place, State.freeEntry, h, hq]

/-! ### READ STREAM after its prelude (R37) -/

/-- A state after the prelude, with given paths of which the Read Buffers and the deferred request are invalidated
(R43). -/
def State.cleared (paths : Streams) (e : State) : State :=
  { e.started with streams := { paths with current := .empty, ahead := .empty, deferred := none } }

/-- The Read Buffers of a ready bridge after its prelude and their invalidation, whatever stream the prelude ended
(R5, R43). -/
theorem State.started_invalidate (e : State) : e.started.invalidate = e.cleared e.streams := by
  unfold State.started State.invalidate State.cleared
  split <;> rfl

/-- READ STREAM at a ready bridge is its demand fetch, from invalidated Read Buffers, and the decoder state (R37). -/
theorem exec_readStream_ready (s e : State) (he : e = s.atHost) (h : e.readyForCommand) :
    exec .readStream s = .next ((e.cleared e.streams).demandFetch.setDecoder .readStream).logBatch := by
  show Host.Outcome.next (s.hostWrite Command.readStream.byte) = _
  rw [State.command_ready s e .readStream (by decide) he h rfl, ← State.started_invalidate]
  rfl

/-- READ STREAM where the prelude seals a pack into the staging slot: its demand fetch finds the slot taken
(R5, R35, R37). -/
theorem exec_readStream_sealing (s e : State) (p : Pack) (he : e = s.atHost) (hr : e.running = true)
    (ha : e.power.asleep = false) (hs : e.streams.staging = none) (hcol : e.host.collected = none)
    (hd : e.host.decoder = .writeStream) (hp : e.streams.pack = some p)
    (hc : (e.mapEntry p.page).classify = .clean) (hv : (e.mapEntry p.page).valid = true)
    (hw : (e.mapEntry p.page).mayWrite = true) (hx : (e.mapEntry p.page).toExchange = false)
    (hq : 8 ≤ e.engine.queue.length) :
    exec .readStream s = .next
      ((e.cleared { e.streams with
          pack := none
          staging := some ((e.mapEntry p.page).packRequest p e.sched.serial) }).numbered.demandFetch.setDecoder
        .readStream).logBatch := by
  have hprelude : e.touched.commandPrelude false =
      State.numbered
        { e.started with
          streams := { e.streams with
            pack := none, staging := some ((e.mapEntry p.page).packRequest p e.sched.serial) } } := by
    have hstarted : e.started =
        { e.touched with host := { e.host with halfSeen := false, idleLatch := false, decoder := .idle } } := by
      simp [State.started, State.touched, hd]
    rw [State.commandPrelude_writeStream e p hcol hd hp hc hv hw hx,
      State.place_staged _ e.touched.clearLatch.dropPack.takeSerial hq hs, hstarted]
    rfl
  show Host.Outcome.next (s.hostWrite Command.readStream.byte) = _
  rw [State.hostWrite_awake s e .readStream (by decide) he hr ha hs hcol, State.select_setHalf]
  show Host.Outcome.next ((e.touched.commandPrelude false).decode (some .readStream)).logBatch = _
  rw [hprelude]
  rfl

/-- Settles O9: the demand fetch fails at an entry that is not VALID, and goes where the queue and the staging slot,
which the prelude may just have filled, leave room. -/
theorem readStreamFetchesTheCurrentUnit : Obligations.ReadStreamFetchesTheCurrentUnit := by
  intro s e m first r he hm hfirst hc hreq
  obtain rfl : first = e.addr.unitFirst := hfirst
  obtain rfl : r = fetchRequest .hostFetch e.addr.unitWords
      { dest := .span (m.frame ++ e.addr.unitFirst), confirm := m.confirm, prefetch := m.prefetch, reread := m.reread }
      e.addr.pageCtr e.addr.offCtr := funext hreq
  refine ⟨?_, ?_, ?_, ?_⟩
  · intro h hv
    rw [exec_readStream_ready s e he h, State.demandFetch_invalid (e.cleared e.streams) m hm hc hv]
    exact congrArg _ (State.logBatch_raise
      (((e.cleared e.streams).setCurrent (unitBuffer .failed e.addr.pageCtr e.addr.unitFirst)).setDecoder .readStream) _
      h.runs h.started_raised)
  · intro h hv hmr hx hq
    rw [exec_readStream_ready s e he h, State.demandFetch_span_free (e.cleared e.streams) m hm hc hv hmr hx hq]
    exact congrArg _ (State.logBatch_nothing _ h.started_raised)
  · intro h hv hmr hx hq
    obtain ⟨-, -, hs, -⟩ := id h
    rw [exec_readStream_ready s e he h, State.demandFetch_span (e.cleared e.streams) m hm hc hv hmr hx,
      State.place_staged]
    · exact congrArg _ (State.logBatch_nothing _ h.started_raised)
    · exact hq
    · exact hs
  · intro p hr ha hs hcol hd hraised hp hpc hpv hpw hpx hv hmr hx hq
    rw [exec_readStream_sealing s e p he hr ha hs hcol hd hp hpc hpv hpw hpx hq,
      State.demandFetch_span _ m ?_ hc hv hmr hx, State.place_deferred]
    · exact congrArg _ (State.logBatch_nothing _ hraised)
    · exact hq
    · rfl
    · exact hm

end Sys2Proof.Machine
end

section
/-! PROOF. Results delivered to the blocks of the bridge, and the beats that bring them. -/

namespace Sys2Proof.Machine

/-! ### Delivery (R39, R89, R98, R102) -/

/-- A completed demand fetch that the current buffer is bound to (R39). -/
theorem State.deliverDone_hostFetch (r : Request) (status : DataStatus) (data : List Byte) (s : State)
    (ho : r.origin = .hostFetch) (hc : s.streams.current.state = .fetching r.serial) :
    s.deliverDone r status data =
      { s with streams := { s.streams with current := { s.streams.current with
          state := if status = .spoiled then .failed else .valid data } } } := by
  simp only [State.deliverDone, ho, State.fetchResult, if_pos hc]
  split <;> rfl

/-- The completion of the lock fetch that the Interlock Unit tracks (R98). -/
theorem State.lockFetchDone_current (serial : Nat) (status : DataStatus) (data : List Byte) (s : State)
    (hs : s.ilu.lock.state = .fetching) (hc : s.ilu.lock.current = some serial) :
    s.lockFetchDone serial status data =
      { s with ilu := { s.ilu with
          lock := { s.ilu.lock with
            state := .held, current := none, status := status
            data := if status = .spoiled then s.ilu.lock.data else bytes8 data
            hold := some (s.startTimer s.lockHold) }
          claim := { s.ilu.claim with driving := false, timer := none, waiting := false } } } := by
  rw [State.lockFetchDone, if_pos ⟨hs, hc⟩]
  rfl

/-- The end of a store or release changes the host lock, and only if the Interlock Unit tracks it (R102). -/
theorem State.unlockEnded_eq (serial : Nat) (s : State) :
    s.unlockEnded serial =
      { s with ilu := { s.ilu with
          lock := if s.ilu.lock.current = some serial then
              { s.ilu.lock with state := .none, target := none, current := none, hold := none }
            else s.ilu.lock } } := by
  unfold State.unlockEnded
  split <;> rfl

/-- A lock fetch is delivered to the Interlock Unit (R89). -/
theorem State.deliverDone_lockFetch (r : Request) (status : DataStatus) (data : List Byte) (s : State)
    (ho : r.origin = .lockFetch) : s.deliverDone r status data = s.lockFetchDone r.serial status data := by
  simp only [State.deliverDone, ho]

/-- A store or a release of the host lock is delivered to the Interlock Unit (R89). -/
theorem State.deliverDone_unlock (r : Request) (status : DataStatus) (data : List Byte) (s : State)
    (ho : r.origin = .lockStore ∨ r.origin = .lockRelease) :
    s.deliverDone r status data = s.unlockEnded r.serial := by
  rcases ho with ho | ho <;> simp only [State.deliverDone, ho]

/-! ### The scoreboard (R85, R86) -/

/-- Answering a packet and logging a batch touch different fields. -/
theorem State.reply_logBatch (r : Option Receipt) (s : State) : (s.reply r).logBatch = s.logBatch.reply r := by
  have hrun : (s.reply r).running = s.running := rfl
  unfold State.logBatch
  rw [hrun]
  split <;> rfl

/-- A beat that passes its check is scored and answered TAKEN (R70). -/
theorem exec_beat_scored (s e : State) (p : BeatPacket) (he : e = s.enter .packets) (hr : e.running = true)
    (hs : e.pins.spanReset = false) (hvalue : p.valueOk = true) (hnumber : p.beat.number ≤ 3)
    (hnode : p.beat.requester = e.power.node) :
    exec (.beat p) s = .next (State.reply (some .taken) (e.scoreBeat p.beat).logBatch) := by
  show Host.Outcome.next (s.packetEvent (State.receiveBeat p)) = _
  rw [State.packetEvent_at s e _ he, State.receiveBeat_passes e p hr hs hvalue hnumber hnode, State.reply_logBatch]

/-- An 8-bit counter stays at 255 (R85). -/
theorem saturate_byte (x : BitVec 8) : saturate x = if x = 255#8 then 255#8 else x + 1 := by
  have hmax : BitVec.allOnes 8 = 255#8 := rfl
  unfold saturate
  rw [hmax]
  split
  next h => exact h
  · rfl

/-- A beat for a tag that awaits none is a stray (R85, check 1). -/
theorem State.scoreBeat_stray (e : State) (p : Beat) (h : ∀ b, e.tag p.tag = .busy b → b.awaiting = false) :
    e.scoreBeat p = e.strayBeat p.tag := by
  unfold State.scoreBeat
  split
  · rfl
  · rfl
  next b hb => simp [h b hb]

/-- A beat out of range or repeated is a sequence error (R85, checks 2 and 3). -/
theorem State.scoreBeat_sequence (e : State) (p : Beat) (b : BusyTag) (hb : e.tag p.tag = .busy b)
    (ha : b.awaiting = true) (h : b.expected ≤ p.number ∨ p.number ∈ b.received) :
    e.scoreBeat p = e.sequenceError p.tag b := by
  have htest : (decide (b.expected ≤ p.number) || b.received.contains p.number) = true := by simpa using h
  simp only [State.scoreBeat, hb, ha, Bool.not_true, Bool.false_eq_true, if_false, if_pos htest]

/-- The failure of a host write is delivered to no block (R89). -/
theorem State.failTag_hostWrite (t : Tag) (b : BusyTag) (c : FaultCode) (s : State) (ho : b.req.origin = .hostWrite) :
    s.failTag t b c =
      (s.setTag t (.quarantine s.startQuarantine)).raise (b.req.fault c (some t)) := by
  simp only [State.failTag, State.deliverFailed, ho]
  rfl

/-- The fault that the one beat of a transaction leaves: none if GOOD, else that of its status (R86). -/
def statusFaults (r : Request) (t : Tag) (w : BeatStatus) : List FaultRecord :=
  if w = .good then [] else [r.fault (if w = .mended then .dataMended else .dataSpoiled) (some t)]

/-- The data status of a beat that is not HELD (R62). -/
def statusOf (w : BeatStatus) : DataStatus :=
  if w = .good then .good else if w = .mended then .mended else .spoiled

/-- Only a SPOILED beat spoils (R62). -/
theorem statusOf_spoiled_iff {w : BeatStatus} (h : w ≠ .held) : statusOf w = .spoiled ↔ w = .spoiled := by
  cases w <;> simp [statusOf] at h ⊢

/-- The state with a tag FREE and the faults of its completion to log (R86). -/
def State.freed (t : Tag) (faults : List FaultRecord) (s : State) : State :=
  { s.setTag t .free with raised := faults }

/-- The one beat that a tag awaits: its fault, the tag FREE, and the result delivered (R85, R86, R89). -/
theorem State.scoreBeat_one (e : State) (p : Beat) (b : BusyTag) (hb : e.tag p.tag = .busy b) (ha : b.awaiting = true)
    (hx : b.expected = 1) (hrec : b.received = []) (hn : p.number = 0) (hs : p.status ≠ .held) (hraised : e.raised = [])
    (hw : b.worst = .good) (hab : b.abortRelease = false) :
    e.scoreBeat p =
      State.deliverDone b.req (statusOf p.status) (b.place p)
        (e.freed p.tag (statusFaults b.req p.tag p.status)) := by
  have hworst : (b.record p).worst = statusOf p.status := by
    show b.worst.worse p.status.data = _
    rw [hw, DataStatus.good_worse _ hs]
    rfl
  have hfaults : (e.raiseStatus p.tag (b.record p)).setTag p.tag .free =
      e.freed p.tag (statusFaults b.req p.tag p.status) := by
    unfold State.raiseStatus
    rw [hworst]
    cases hp : p.status with
    | good => simp [statusOf, statusFaults, State.freed, State.setTag, hraised]
    | mended => simp [statusOf, statusFaults, State.freed, State.setTag, State.raise, hraised, BusyTag.record]
    | spoiled => simp [statusOf, statusFaults, State.freed, State.setTag, State.raise, hraised, BusyTag.record]
    | held => exact absurd hp hs
  have habort : (b.record p).abortRelease = false := hab
  rw [State.scoreBeat_completes e p b hb ha hx hrec hn hs, State.completeTag, if_neg (by simp [habort]), hfaults, hworst]
  rfl

/-- The two words of a 2-word READ, or of a LOCK-READ, are the data of its beat 0 (R63, R85). -/
theorem BusyTag.place_doubleword (b : BusyTag) (p : Beat)
    (hk : b.req.kind = .read ∧ b.req.words = 2 ∨ b.req.kind = .lockRead) (hl : b.data.length = 8) (hn : p.number = 0) :
    b.place p = wordBytes p.word0 ++ wordBytes p.word1 := by
  have hsplice := splice_doubleword b.data (wordBytes p.word0 ++ wordBytes p.word1) hl rfl
  rcases hk with ⟨hk, hwords⟩ | hk
  · simp [BusyTag.place, hk, hwords, hn, hsplice]
  · simp [BusyTag.place, hk, hsplice]

/-- Settles O44: the checks of R85 in order, and for the beat that completes a transaction the block that its result is
delivered to. -/
theorem beatsAreScored : Obligations.BeatsAreScored := by
  constructor
  · intro s e p he hr hraised hreset
    have hsilent : e.receiveBeat p = e.reply none := by simp [State.receiveBeat, hr, hreset]
    show Host.Outcome.next (s.packetEvent (State.receiveBeat p)) = _
    rw [State.packetEvent_at s e _ he, hsilent, State.logBatch_nothing (e.reply none) hraised]
  intro s e p he hr hraised hreset hvalue hnumber hnode
  have hat := exec_beat_scored s e p he hr hreset hvalue hnumber hnode
  refine ⟨?_, ?_, ?_, ?_⟩
  · intro hidle
    have hlogged := State.logBatch_raise
      ({ e with engine := { e.engine with strays := saturate e.engine.strays } } : State) (strayFault p.beat.tag)
      hr hraised
    rw [hat, State.scoreBeat_stray e p.beat hidle, State.strayBeat, hlogged, saturate_byte]
    rfl
  · intro b a hb ha hbad ho hk hdest
    have hfault : b.req.fault .sequence (some p.beat.tag) =
        { code := .sequence, origin := .outbound, tag := some p.beat.tag, kind := some .write, address := some a
          page := b.req.window.map Prod.fst, offset := b.req.window.map Prod.snd, peer := none } := by
      simp [Request.fault, Request.tagged, hk, hdest, Dest.address?]
    rw [hat, State.scoreBeat_sequence e p.beat b hb ha hbad, State.sequenceError, State.failTag_hostWrite _ _ _ _ ho,
      hfault, State.logBatch_raise (e.setTag p.beat.tag (.quarantine e.startQuarantine)) _ hr hraised]
    rfl
  · intro b hb ha hx hrec hw hn hs hab hk hwords hl ho hcur
    have hone := State.scoreBeat_one e p.beat b hb ha hx hrec hn hs hraised hw hab
    refine ⟨_, ?_, rfl⟩
    rw [hat, hone, State.deliverDone_hostFetch _ _ _ (e.freed p.beat.tag _) ho hcur,
      BusyTag.place_doubleword b p.beat (.inl ⟨hk, hwords⟩) hl hn]
    simp only [statusOf_spoiled_iff hs]
    rfl
  · intro b faults hb ha hx hrec hw hn hs hab hfaults
    obtain rfl : faults = statusFaults b.req p.beat.tag p.beat.status := hfaults
    rw [hat, State.scoreBeat_one e p.beat b hb ha hx hrec hn hs hraised hw hab]
    constructor
    · intro hk ho hl hfetching hcur
      rw [State.deliverDone_lockFetch _ _ _ _ ho, State.lockFetchDone_current _ _ _ (e.freed p.beat.tag _) hfetching hcur,
        BusyTag.place_doubleword b p.beat (.inr hk) hl hn]
      simp only [statusOf_spoiled_iff hs]
      rfl
    · intro hk ho
      rw [State.deliverDone_unlock _ _ _ _ ho, State.unlockEnded_eq]
      rfl

end Sys2Proof.Machine
end

section
/-! PROOF. The actions of the end-of-step pass that move requests (R77, R79, R96, R111, R116). -/

namespace Sys2Proof.Machine

/-! ### Rows of the pass -/

/-- A row of the pass does nothing if the next action is not of its kind (R116). -/
theorem State.passEvent_other (s e : State) (w : PassAction → Bool) (he : e = s.enter .pass)
    (h : ∀ a, e.passNext = some a → w a = false) : s.passEvent w = s := by
  subst he
  unfold State.passEvent
  split
  · have hnone : (s.enter .pass).passNext.filter w = none := by
      rw [Option.filter_eq_none_iff]
      intro a ha
      simp [h a ha]
    rw [hnone]
  · rfl

/-- A staged request enters first, if the queue has room (R116). -/
theorem State.passNext_enterStaged (e : State) (hs : e.streams.staging.isSome = true)
    (hq : e.engine.queue.length < 8) : e.passNext = some .enterStaged := by
  have hstaged : e.stagedCanEnter = true := by simp [State.stagedCanEnter, State.freeEntry, hq, hs]
  rw [State.passNext, if_pos hstaged]

/-- With the staging slot free, a waiting lock request is placed next (R96, R116). -/
theorem State.passNext_placeWaiting (e : State) (hs : e.streams.staging = none) (hw : e.ilu.waiting.isSome = true) :
    e.passNext = some .placeWaiting := by
  have hstaged : e.stagedCanEnter = false := by simp [State.stagedCanEnter, hs]
  have hwaiting : e.waitingCanPlace = true := by simp [State.waitingCanPlace, hs, hw]
  rw [State.passNext, if_neg (by simp [hstaged]), if_pos hwaiting]

/-- With nothing staged and no lock request waiting, a head that may move does (R79, R116). -/
theorem State.passNext_moveHead (e : State) (q : QueueEntry) (rest : List QueueEntry) (hs : e.streams.staging = none)
    (hw : e.ilu.waiting = none) (hq : e.engine.queue = q :: rest) (hm : e.mayMove q = true) :
    e.passNext = some (.moveHead q) := by
  have hstaged : e.stagedCanEnter = false := by simp [State.stagedCanEnter, hs]
  have hwaiting : e.waitingCanPlace = false := by simp [State.waitingCanPlace, hw]
  have hhead : e.movableHead = some q := by simp [State.movableHead, hq, Option.filter, hm]
  rw [State.passNext, if_neg (by simp [hstaged]), if_neg (by simp [hwaiting]), hhead]

/-- What moves is the head, and it may (R79). -/
theorem State.mayMove_of_passNext {e : State} {p q : QueueEntry} {rest : List QueueEntry}
    (h : e.passNext = some (.moveHead p)) (hq : e.engine.queue = q :: rest) : e.mayMove q = true := by
  have hhead : e.movableHead = some p := by
    unfold State.passNext at h
    split at h
    · cases h
    · split at h
      · cases h
      · split at h
        next r hr =>
          obtain rfl := PassAction.moveHead.inj (Option.some.inj h)
          exact hr
        · simp only [State.nextGrant] at h
          split at h
          · obtain ⟨_, -, hgrant⟩ := Option.map_eq_some_iff.mp h
            cases hgrant
          · cases h
  rw [State.movableHead, hq, List.head?_cons] at hhead
  obtain ⟨hsame, hm⟩ := Option.filter_eq_some_iff.mp hhead
  obtain rfl := Option.some.inj hsame
  exact hm

/-! ### The staged and the deferred request (R35) -/

/-- The staged request alone (R35). -/
theorem State.enterStaged_alone (e : State) (r : Request) (hs : e.streams.staging = some r)
    (hd : e.streams.deferred = none) :
    e.enterStaged = State.queued r { e with streams := { e.streams with staging := none } } := by
  simp only [State.enterStaged, hs, hd]
  rfl

/-- The staged request with the deferred one behind it (R35). -/
theorem State.enterStaged_deferred (e : State) (r d : Request) (hs : e.streams.staging = some r)
    (hd : e.streams.deferred = some d) :
    e.enterStaged =
      State.place d (State.queued r { e with streams := { e.streams with staging := none, deferred := none } }) := by
  simp only [State.enterStaged, hs, State.enqueue_keeps, hd]
  rfl

/-! ### The waiting lock request (R96) -/

/-- The waiting lock request enters a queue with room, and else takes the free staging slot (R96). -/
theorem State.placeWaiting_eq (e : State) (r : Request) (hs : e.streams.staging = none) (hw : e.ilu.waiting = some r) :
    e.placeWaiting =
      if e.engine.queue.length < 8 then State.queued r { e with ilu := { e.ilu with waiting := none } }
      else { e with streams := { e.streams with staging := some r }, ilu := { e.ilu with waiting := none } } := by
  simp only [State.placeWaiting, hw]
  rcases State.placeLock_cases r ({ e with ilu := { e.ilu with waiting := none } } : State) with
    ⟨hq, hplace⟩ | ⟨hq, -, hplace⟩ | ⟨-, hstaged, -⟩
  · rw [hplace, if_pos hq]
    rfl
  · rw [hplace, if_neg (Nat.not_lt.mpr hq)]
    rfl
  · exact absurd hs hstaged

/-! ### The move to the send point (R79, R84, R111) -/

/-- The lowest FREE tag (R79). -/
theorem State.lowestFree_eq (e : State) (t : Tag) (ht : e.tag t = .free) (hlow : ∀ u, u < t → e.tag u ≠ .free) :
    e.lowestFree = some t := by
  have hbelow : ∀ u, u < t → (e.tag u).isFree = false := by
    intro u hu
    have hne := hlow u hu
    cases hst : e.tag u with
    | free => exact absurd hst hne
    | busy | quarantine => rfl
  rw [State.lowestFree, List.find?_eq_some_iff_getElem]
  refine ⟨by rw [ht]; rfl, t.val, by simp, by simp, ?_⟩
  intro j hj
  simp [hbelow ⟨j, by omega⟩ hj]

/-- CLAIM obedience holds back a lock fetch of the host while OBEY is on and another node drives the line alone
(R111). -/
theorem State.claimHoldsBack_iff (e : State) (r : Request) :
    e.claimHoldsBack r = true ↔
      r.origin = .lockFetch ∧ (e.setting 4).getLsbD 1 = true ∧ e.pins.claimOthers = true ∧
        e.ilu.claim.driving = false := by
  simp only [State.claimHoldsBack, State.claimObey, State.claimHolds, State.claimLine, Bool.and_eq_true, beq_iff_eq,
    Bool.or_eq_true, Bool.not_eq_true']
  constructor
  · rintro ⟨⟨ho, hobey⟩, hline, hdriving⟩
    exact ⟨ho, hobey, by simpa [hdriving] using hline, hdriving⟩
  · rintro ⟨ho, hobey, hothers, hdriving⟩
    exact ⟨⟨ho, hobey⟩, .inl hothers, hdriving⟩

/-- A Span request with a tag may move where nothing of R79 and R111 stands against it. -/
theorem State.mayMove_span (e : State) (q : QueueEntry) (t : Tag) (a : SpanAddr) (hd : q.req.dest = .span a)
    (hw : q.waitTick = false) (hp : e.engine.sendPoint = none) (ha : e.engine.abandoned = false)
    (hr : e.pins.spanReset = false) (ht : e.lowestFree = some t) (hc : e.claimHoldsBack q.req = false) :
    e.mayMove q = true := by
  simp [State.mayMove, Request.isLocal, hd, hw, hp, ha, hr, ht, hc]

/-- Settles O51: each movement is the pass's next action in its turn, and a head held back by obedience is not. -/
theorem requestsMoveAtTheEndOfAStep : Obligations.RequestsMoveAtTheEndOfAStep := by
  intro s e he hr
  refine ⟨?_, ?_, ?_, ?_⟩
  · intro r hs hq
    have hact : exec .stagedRequestEntry s = .next e.enterStaged :=
      congrArg _ (State.passEvent_next s e _ .enterStaged he hr
        (State.passNext_enterStaged e (by simp [hs]) hq) rfl)
    constructor
    · intro hd
      rw [hact, State.enterStaged_alone e r hs hd]
    · intro d hd
      have hlen : (State.queued r { e with streams := { e.streams with
          staging := none, deferred := none } }).engine.queue.length = e.engine.queue.length + 1 := by
        simp [State.queued]
      rw [hact, State.enterStaged_deferred e r d hs hd]
      split
      · rw [State.place_free d _ (by omega)]
        rfl
      · rw [State.place_staged d _ (by omega) rfl]
        rfl
  · intro r hs hw
    have hact : exec .waitingLockRequestPlacement s = .next e.placeWaiting :=
      congrArg _ (State.passEvent_next s e _ .placeWaiting he hr
        (State.passNext_placeWaiting e hs (by simp [hw])) rfl)
    rw [hact, State.placeWaiting_eq e r hs hw]
  · rintro q rest hq - ho - hobey hothers hdriving
    have hheld : e.claimHoldsBack q.req = true := (e.claimHoldsBack_iff q.req).mpr ⟨ho, hobey, hothers, hdriving⟩
    have hstays : e.mayMove q = false := by simp [State.mayMove, hheld]
    refine congrArg _ (State.passEvent_other s e _ he fun a ha => ?_)
    cases a with
    | moveHead p => simp [State.mayMove_of_passNext ha hq] at hstays
    | enterStaged | placeWaiting | grant => rfl
  · intro q rest t a hs hw hq hkind hd hwait hp ha hreset ht hlow
    have hfree := e.lowestFree_eq t ht hlow
    have hclaim : e.claimHoldsBack q.req = false := by
      rw [Bool.eq_false_iff, Ne, State.claimHoldsBack_iff]
      rintro ⟨ho, hobey, hothers, hdriving⟩
      rcases hkind with ⟨-, hfetch, -⟩ | ⟨-, -, -, hoff | hoff | hoff⟩ <;> simp_all
    have htagged : q.req.tagged = true := by
      rcases hkind with ⟨hk, -⟩ | ⟨hk, -⟩ <;> simp [Request.tagged, hk]
    have hbeats : q.req.expectedBeats = if q.req.kind = .read then 4 else 1 := by
      rcases hkind with ⟨hk, -, hwords⟩ | ⟨hk, -⟩
      · simp [Request.expectedBeats, hk, readBeats, hwords]
      · simp [Request.expectedBeats, hk]
    have hact : exec .headToSendPoint s = .next (e.moveHead q) :=
      congrArg _ (State.passEvent_next s e _ (.moveHead q) he hr
        (State.passNext_moveHead e q rest hs hw hq (e.mayMove_span q t a hd hwait hp ha hreset hfree hclaim)) rfl)
    rw [hact]
    simp only [State.moveHead, if_pos htagged, hfree, State.setTag?, BusyTag.bind, hbeats, State.dequeue, hq,
      List.tail_cons]
    rfl

end Sys2Proof.Machine
end

section
/-! PROOF. Grants to the local head of the Outbound Queue and to a kept lock fetch (R78, R99, R102). -/

namespace Sys2Proof.Machine

/-! ### Doublewords of Exchange Memory -/

/-- A doubleword begins at eight times its index. -/
theorem offsetOfDw_toNat (i : DwIndex) : (offsetOfDw i).toNat = 8 * i.toNat := by
  show (i ++ 0#3 : BitVec (8 + 3)).toNat = 8 * i.toNat
  rw [BitVec.toNat_append]
  simp [Nat.shiftLeft_eq, Nat.mul_comm]

/-- The doubleword of its own first byte. -/
theorem dwOfOffset_append (i : DwIndex) : dwOfOffset (i ++ 0#3) = i := by
  have hoffset : (i ++ 0#3 : ExOffset).toNat = 8 * i.toNat := offsetOfDw_toNat i
  have hi := i.isLt
  apply BitVec.eq_of_toNat_eq
  rw [dwOfOffset, BitVec.extractLsb'_toNat, hoffset, Nat.shiftRight_eq_div_pow]
  omega

/-- The eight bytes of a doubleword (R95, R112). -/
theorem bytes8_readBytes (m : Memory) (i : DwIndex) :
    bytes8 (m.readBytes (offsetOfDw i) 8) = Vector.ofFn fun k : Fin 8 => m.read (8 * i.toNat + k.val) := by
  unfold bytes8
  congr 1
  funext k
  have hoffset : (offsetOfDw i + BitVec.ofNat 11 k.val).toNat = 8 * i.toNat + k.val := by
    have hi := i.isLt
    have hk := k.isLt
    rw [BitVec.toNat_add, BitVec.toNat_ofNat, offsetOfDw_toNat]
    omega
  rw [List.getD_eq_getElem _ _ (by simp), Memory.getElem_readBytes, hoffset]

/-! ### Grants of the pass (R113, R116) -/

/-- The state in which the arbiter has counted one more grant (R115, R116). -/
def State.counted (run : Nat) (s : State) : State :=
  { s with sched := { s.sched with grants := s.sched.grants + 1 }, xmm := { s.xmm with run := run } }

/-- The state in which a grant to the local head is counted and the head has left the queue. -/
def State.countedHead (run : Nat) (rest : List QueueEntry) (s : State) : State :=
  { s.counted run with engine := { s.engine with queue := rest } }

/-- A grant to the local head (R78). -/
theorem State.grant_head (e : State) (r : Request) (n : Nat) (q : QueueEntry) (rest : List QueueEntry)
    (hq : e.engine.queue = q :: rest) : e.grant (.head r) n = (e.countedHead n rest).executeLocal r := by
  simp only [State.grant, State.executeGrant, State.dequeue, hq, List.tail_cons]
  rfl

/-- LOCAL_REQUEST_GRANT of the local head (R78). -/
theorem exec_localRequestGrant (s e : State) (r : Request) (n : Nat) (q : QueueEntry) (rest : List QueueEntry)
    (he : e = s.enter .pass) (hr : e.running = true) (hn : e.passNext = some (.grant (.head r) n))
    (hq : e.engine.queue = q :: rest) :
    exec .localRequestGrant s = .next ((e.countedHead n rest).executeLocal r) := by
  rw [← State.grant_head e r n q rest hq]
  exact congrArg _ (State.passEvent_next s e _ _ he hr hn rfl)

/-- EXCHANGE_LOCK_ATTEMPT of a LOCK-READ at the head (R99). -/
theorem exec_exchangeLockAttempt_head (s e : State) (r : Request) (n : Nat) (q : QueueEntry) (rest : List QueueEntry)
    (he : e = s.enter .pass) (hr : e.running = true) (hn : e.passNext = some (.grant (.head r) n))
    (hq : e.engine.queue = q :: rest) (hk : r.kind = .lockRead) :
    exec .exchangeLockAttempt s = .next ((e.countedHead n rest).attemptLock r none) := by
  have hlocal : (e.countedHead n rest).executeLocal r = (e.countedHead n rest).attemptLock r none := by
    simp only [State.executeLocal, hk]
  rw [← hlocal, ← State.grant_head e r n q rest hq]
  exact congrArg _ (State.passEvent_next s e _ _ he hr hn (by simp [PassAction.attemptsLock, hk]))

/-- EXCHANGE_LOCK_ATTEMPT of a kept fetch (R99). -/
theorem exec_exchangeLockAttempt_kept (s e : State) (k : KeptFetch) (n : Nat) (he : e = s.enter .pass)
    (hr : e.running = true) (hn : e.passNext = some (.grant (.kept k) n)) :
    exec .exchangeLockAttempt s = .next ((e.counted n).attemptLock k.req (some k.window)) :=
  congrArg _ (State.passEvent_next s e _ _ he hr hn rfl)

/-! ### The accesses (R78, R99, R102) -/

/-- A local WRITE of the host (R78). -/
theorem State.executeLocal_hostWrite (r : Request) (s : State) (hk : r.kind = .write) (ho : r.origin = .hostWrite) :
    s.executeLocal r = s.writeLocal r := by
  simp only [State.executeLocal, hk, State.deliverDone, ho]

/-- A local READ (R78). -/
theorem State.executeLocal_read (r : Request) (s : State) (o : ExOffset) (hk : r.kind = .read)
    (hd : r.dest = .exchange o) :
    s.executeLocal r = s.deliverDone r .good (s.xmm.mem.readBytes o (4 * r.words)) := by
  simp only [State.executeLocal, hk, Request.offset, hd]

/-- A local store or release (R102). -/
theorem State.executeLocal_unlock (r : Request) (s : State) (i : DwIndex) (hk : r.kind = .unlockWrite)
    (hd : r.dest = .exchange (i ++ 0#3)) (ho : r.origin = .lockStore ∨ r.origin = .lockRelease) :
    s.executeLocal r =
      State.unlockEnded r.serial
        ((s.setMem (s.xmm.mem.writeBytes (i ++ 0#3) r.enables r.data)).setTable (dropHostLock i s.ilu.table)) := by
  simp only [State.executeLocal, hk, State.deliverDone_unlock _ _ _ _ ho, State.writeLocal, Request.offset, Request.dw,
    hd, dwOfOffset_append]

/-- A lock attempt is refused where the doubleword has an entry or the table is full (R99). -/
theorem State.lockRefused_iff (i : DwIndex) (s : State) :
    s.lockRefused i = true ↔ (findLock i s.ilu.table).isSome = true ∨ 4 ≤ s.ilu.table.length := by
  simp [State.lockRefused]

/-- A refused attempt keeps the fetch (R99). -/
theorem State.attemptLock_refused (r : Request) (window : Option Timer) (s : State) (i : DwIndex)
    (hd : r.dest = .exchange (i ++ 0#3)) (h : (findLock i s.ilu.table).isSome = true ∨ 4 ≤ s.ilu.table.length) :
    s.attemptLock r window = s.keepFetch r window := by
  have hdw : r.dw = i := by simp only [Request.dw, hd, dwOfOffset_append]
  rw [State.attemptLock, hdw, if_pos ((s.lockRefused_iff i).mpr h)]

/-- A granted attempt makes HOST's entry and completes the fetch with the doubleword (R98, R99). -/
theorem State.attemptLock_granted (r : Request) (window : Option Timer) (s : State) (i : DwIndex)
    (hd : r.dest = .exchange (i ++ 0#3)) (hf : findLock i s.ilu.table = none) (hl : s.ilu.table.length < 4) :
    s.attemptLock r window =
      (s.dropKept.addLock i .host).lockFetchDone r.serial .good (s.xmm.mem.readBytes (offsetOfDw i) 8) := by
  have hdw : r.dw = i := by simp only [Request.dw, hd, dwOfOffset_append]
  have hgranted : s.lockRefused i ≠ true := by
    rw [Ne, State.lockRefused_iff, hf]
    simp
    omega
  rw [State.attemptLock, hdw, if_neg hgranted]

/-- Settles O53: each access by the kind of the head, and the lock attempts by the Lock Table. -/
theorem localHeadsExecuteAtomically : Obligations.LocalHeadsExecuteAtomically := by
  intro s e n he hr
  refine ⟨?_, ?_, ?_, ?_, ?_⟩
  · intro r q rest hn hq hk ho
    rw [exec_localRequestGrant s e r n q rest he hr hn hq, State.executeLocal_hostWrite r _ hk ho]
    rfl
  · intro r q rest o hn hq hk ho hd hcur
    rw [exec_localRequestGrant s e r n q rest he hr hn hq, State.executeLocal_read r _ o hk hd,
      State.deliverDone_hostFetch r _ _ (e.countedHead n rest) ho hcur]
    rfl
  · intro r q rest i hn hq hk ho hd
    rw [exec_localRequestGrant s e r n q rest he hr hn hq, State.executeLocal_unlock r _ i hk hd ho,
      State.unlockEnded_eq]
    rfl
  · intro r q rest i hn hq hk hd hfetching hcur
    have hat := exec_exchangeLockAttempt_head s e r n q rest he hr hn hq hk
    constructor
    · intro hf hl
      rw [hat, State.attemptLock_granted r none (e.countedHead n rest) i hd hf hl,
        State.lockFetchDone_current _ _ _ ((e.countedHead n rest).dropKept.addLock i .host) hfetching hcur,
        bytes8_readBytes]
      rfl
    · intro hrefused
      rw [hat, State.attemptLock_refused r none (e.countedHead n rest) i hd hrefused]
      rfl
  · intro k i hn hd hrefused
    rw [exec_exchangeLockAttempt_kept s e k n he hr hn,
      State.attemptLock_refused k.req (some k.window) (e.counted n) i hd (.inl hrefused)]
    rfl

end Sys2Proof.Machine
end

section
/-! PROOF. The check code of a map entry: up to three inverted bits of a consistent entry leave it inconsistent, so an
upset is mended and a second one is noticed (R47). -/

namespace Sys2Proof.Machine

/-! ### Weights -/

/-- The weight of a word, as a sum over its positions. -/
theorem bitWeight_eq_sum {n : Nat} (x : BitVec n) : bitWeight x = ∑ i ∈ Finset.range n, (x.getLsbD i).toNat := by
  have hcount : ∀ l : List (Fin n), l.countP x.getLsb = (l.map fun i => (x.getLsb i).toNat).sum := by
    intro l
    induction l with
    | nil => rfl
    | cons i l ih =>
      rw [List.countP_cons, List.map_cons, List.sum_cons, ih]
      cases x.getLsb i <;> simp [Nat.add_comm]
  rw [Finset.sum_range, Fin.sum_univ_def]
  exact hcount (List.finRange n)

/-- The weight of two words side by side. -/
theorem bitWeight_append {w v : Nat} (x : BitVec w) (y : BitVec v) : bitWeight (x ++ y) = bitWeight x + bitWeight y := by
  have hlow : ∀ i ∈ Finset.range v, ((x ++ y).getLsbD i).toNat = (y.getLsbD i).toNat := fun i hi => by
    simp [BitVec.getLsbD_append, Finset.mem_range.mp hi]
  have hhigh : ∀ i ∈ Finset.range w, ((x ++ y).getLsbD (v + i)).toNat = (x.getLsbD i).toNat := fun i _ => by
    simp [BitVec.getLsbD_append]
  have hsplit := Finset.sum_range_add (fun i => ((x ++ y).getLsbD i).toNat) v w
  rw [Finset.sum_congr rfl hlow, Finset.sum_congr rfl hhigh, Nat.add_comm v w, Nat.add_comm (∑ i ∈ _, _)] at hsplit
  simp only [bitWeight_eq_sum, hsplit]

/-- A sum has a 1 only where one of its terms has. -/
theorem bitWeight_xor_le {n : Nat} (x y : BitVec n) : bitWeight (x ^^^ y) ≤ bitWeight x + bitWeight y := by
  simp only [bitWeight_eq_sum, ← Finset.sum_add_distrib]
  refine Finset.sum_le_sum fun i _ => ?_
  rw [BitVec.getLsbD_xor]
  cases x.getLsbD i <;> cases y.getLsbD i <;> decide

/-- One inverted position weighs 1. -/
theorem bitWeight_twoPow {n : Nat} (i : Fin n) : bitWeight (BitVec.twoPow n i) = 1 := by
  rw [bitWeight_eq_sum, Finset.sum_eq_single i.val]
  · simp
  · intro j _ hne
    simp [Ne.symm hne]
  · simp

/-- One more inverted position adds at most 1. -/
theorem bitWeight_xor_twoPow_le {n : Nat} (x : BitVec n) (i : Fin n) :
    bitWeight (x ^^^ BitVec.twoPow n i) ≤ bitWeight x + 1 :=
  bitWeight_twoPow i ▸ bitWeight_xor_le x (BitVec.twoPow n i)

/-- A change of one position is a change. -/
theorem twoPow_ne_zero {n : Nat} (i : Fin n) : BitVec.twoPow n i ≠ 0#n := by
  intro h
  have hbit := congrArg (fun x => x.getLsbD i) h
  simp at hbit

/-- Only the same position undoes a change of one position. -/
theorem twoPow_xor_eq_zero_iff {n : Nat} (i j : Fin n) : BitVec.twoPow n i ^^^ BitVec.twoPow n j = 0#n ↔ i = j := by
  rw [BitVec.xor_eq_zero_iff]
  refine ⟨fun h => ?_, fun h => h ▸ rfl⟩
  have hbit := congrArg (fun x => x.getLsbD i) h
  simp at hbit
  exact Fin.ext hbit

/-- No third position undoes a change of two. -/
theorem twoPow_xor_xor_ne_zero {n : Nat} {i j : Fin n} (k : Fin n) (h : i ≠ j) :
    BitVec.twoPow n i ^^^ BitVec.twoPow n j ^^^ BitVec.twoPow n k ≠ 0#n := by
  rw [Ne, BitVec.xor_eq_zero_iff]
  intro heq
  have hne : i.val ≠ j.val := fun hc => h (Fin.ext hc)
  have hatI : i.val = k.val := by simpa [hne] using congrArg (fun x => x.getLsbD i) heq
  have hatJ : j.val = k.val := by simpa [Ne.symm hne] using congrArg (fun x => x.getLsbD j) heq
  exact hne (hatI.trans hatJ.symm)

/-! ### Inverted bits of an entry -/

/-- Reading an entry from its 43 bits and writing it out again. -/
@[simp] theorem MapEntry.bits_ofBits (b : BitVec 43) : (MapEntry.ofBits b).bits = b := by
  have hdata : (b.extractLsb' 28 8 ++ b.extractLsb' 0 28 : BitVec (8 + 28)) = b.extractLsb' 0 36 :=
    BitVec.extractLsb'_append_extractLsb'_eq_extractLsb' rfl
  have hall : (b.extractLsb' 36 7 ++ b.extractLsb' 0 36 : BitVec (7 + 36)) = b.extractLsb' 0 43 :=
    BitVec.extractLsb'_append_extractLsb'_eq_extractLsb' rfl
  show b.extractLsb' 36 7 ++ (b.extractLsb' 28 8 ++ b.extractLsb' 0 28 : BitVec (8 + 28)) = b
  rw [hdata, hall, BitVec.extractLsb'_eq_self]

/-- An entry is determined by its 43 bits. -/
@[simp] theorem MapEntry.ofBits_bits (e : MapEntry) : MapEntry.ofBits e.bits = e := by
  obtain ⟨flags, frame, check⟩ := e
  simp only [MapEntry.ofBits, MapEntry.bits, MapEntry.dataBits, MapEntry.mk.injEq]
  refine ⟨?_, ?_, ?_⟩
  · rw [BitVec.extractLsb'_append_eq_of_add_le (by decide)]
    exact BitVec.extractLsb'_append_eq_left
  · rw [BitVec.extractLsb'_append_eq_of_add_le (by decide)]
    exact BitVec.extractLsb'_append_eq_right
  · exact BitVec.extractLsb'_append_eq_left

/-- An upset inverts its bit. -/
@[simp] theorem MapEntry.flip_bits (e : MapEntry) (i : Fin 43) : (e.flip i).bits = e.bits ^^^ BitVec.twoPow 43 i := by
  simp [MapEntry.flip]

/-- A second upset of the same bit undoes the first. -/
@[simp] theorem MapEntry.flip_flip (e : MapEntry) (i : Fin 43) : (e.flip i).flip i = e := by
  rw [MapEntry.flip, MapEntry.flip_bits, BitVec.xor_assoc, BitVec.xor_self, BitVec.xor_zero, MapEntry.ofBits_bits]

/-- Two consistent entries fewer than four positions apart have the same bits (R47). -/
theorem MapEntry.bits_eq_of_close {c d : MapEntry} (hc : c.consistent = true) (hd : d.consistent = true)
    (h : bitWeight (c.bits ^^^ d.bits) < 4) : c.bits = d.bits := by
  have hcheck : Config.checkCode.field c.dataBits = c.check := by simpa [MapEntry.consistent] using hc
  have hcheck' : Config.checkCode.field d.dataBits = d.check := by simpa [MapEntry.consistent] using hd
  have hdata : c.dataBits = d.dataBits := by
    by_contra hne
    have hfar := Config.checkCode.distance _ _ hne
    rw [hcheck, hcheck', Nat.add_comm, ← bitWeight_append, ← BitVec.xor_append] at hfar
    exact absurd h (Nat.not_lt.mpr hfar)
  rw [MapEntry.bits, MapEntry.bits, ← hcheck, ← hcheck', hdata]

/-- A change of one, two or three positions that leaves a consistent entry consistent is none (R47). -/
theorem MapEntry.change_eq_zero {c d : MapEntry} {change : BitVec 43} (hc : c.consistent = true)
    (hd : d.consistent = true) (hbits : d.bits = c.bits ^^^ change) (h : bitWeight change < 4) : change = 0#43 := by
  have hchange : c.bits ^^^ d.bits = change := by
    rw [hbits, ← BitVec.xor_assoc, BitVec.xor_self, BitVec.zero_xor]
  rw [← hchange, BitVec.xor_eq_zero_iff]
  exact MapEntry.bits_eq_of_close hc hd (hchange ▸ h)

/-- A consistent entry with one bit inverted is inconsistent. -/
theorem MapEntry.flip_inconsistent {c : MapEntry} (hc : c.consistent = true) (i : Fin 43) :
    (c.flip i).consistent = false := by
  by_contra hcon
  have hweight := bitWeight_twoPow i
  exact twoPow_ne_zero i
    (MapEntry.change_eq_zero hc (eq_true_of_ne_false hcon) (c.flip_bits i) (by omega))

/-- Of a consistent entry with one bit inverted, inverting that bit and no other makes a consistent one. -/
theorem MapEntry.flip_flip_consistent_iff {c : MapEntry} (hc : c.consistent = true) (i j : Fin 43) :
    ((c.flip i).flip j).consistent = true ↔ i = j := by
  constructor
  · intro hcon
    have hbits : ((c.flip i).flip j).bits = c.bits ^^^ (BitVec.twoPow 43 i ^^^ BitVec.twoPow 43 j) := by
      rw [MapEntry.flip_bits, MapEntry.flip_bits, BitVec.xor_assoc]
    have hone := bitWeight_twoPow i
    have htwo := bitWeight_xor_twoPow_le (BitVec.twoPow 43 i) j
    exact (twoPow_xor_eq_zero_iff i j).mp (MapEntry.change_eq_zero hc hcon hbits (by omega))
  · rintro rfl
    rw [MapEntry.flip_flip]
    exact hc

/-- A consistent entry with two bits inverted is no single bit away from a consistent one. -/
theorem MapEntry.flip_flip_flip_inconsistent {c : MapEntry} (hc : c.consistent = true) {i j : Fin 43} (h : i ≠ j)
    (k : Fin 43) : (((c.flip i).flip j).flip k).consistent = false := by
  by_contra hcon
  have hbits : (((c.flip i).flip j).flip k).bits =
      c.bits ^^^ (BitVec.twoPow 43 i ^^^ BitVec.twoPow 43 j ^^^ BitVec.twoPow 43 k) := by
    simp only [MapEntry.flip_bits, BitVec.xor_assoc]
  have hone := bitWeight_twoPow i
  have htwo := bitWeight_xor_twoPow_le (BitVec.twoPow 43 i) j
  have hthree := bitWeight_xor_twoPow_le (BitVec.twoPow 43 i ^^^ BitVec.twoPow 43 j) k
  exact twoPow_xor_xor_ne_zero k h
    (MapEntry.change_eq_zero hc (eq_true_of_ne_false hcon) hbits (by omega))

/-! ### The outcomes of a check (R47) -/

/-- An inconsistent entry that one position alone mends is MENDED there. -/
theorem MapEntry.classify_mended {e : MapEntry} {i : Fin 43} (he : e.consistent = false)
    (honly : ∀ j, (e.flip j).consistent = true ↔ i = j) : e.classify = .mended (e.flip i) := by
  rw [MapEntry.classify, if_neg (by simp [he])]
  cases hfind : (List.finRange 43).find? fun j => (e.flip j).consistent with
  | none =>
    have hnone := List.find?_eq_none.mp hfind i (List.mem_finRange i)
    exact absurd ((honly i).mpr rfl) hnone
  | some j =>
    have hmends : (e.flip j).consistent = true := List.find?_some (p := fun j => (e.flip j).consistent) hfind
    rw [(honly j).mp hmends]

/-- An inconsistent entry that no position mends is SPOILED. -/
theorem MapEntry.classify_spoiled {e : MapEntry} (he : e.consistent = false)
    (hnone : ∀ j, (e.flip j).consistent = false) : e.classify = .spoiled := by
  have hfind : ((List.finRange 43).find? fun j => (e.flip j).consistent) = none :=
    List.find?_eq_none.mpr fun j _ => by simp [hnone j]
  rw [MapEntry.classify, if_neg (by simp [he]), hfind]

/-- Settles O20: fewer than four inverted bits cannot make one consistent entry into another. -/
theorem upsetsAreMendedOrSpoiled : Obligations.UpsetsAreMendedOrSpoiled := by
  refine ⟨fun s e page i he => by subst he; rfl, ?_⟩
  rintro flags frame c i j rfl
  have hc := MapEntry.computed_consistent flags frame
  refine ⟨MapEntry.computed_classify flags frame, ?_, fun hne => ?_⟩
  · rw [MapEntry.classify_mended (MapEntry.flip_inconsistent hc i) (MapEntry.flip_flip_consistent_iff hc i),
      MapEntry.flip_flip]
  · have htwo : (((MapEntry.computed flags frame).flip i).flip j).consistent = false :=
      Bool.eq_false_iff.mpr fun hcon => hne ((MapEntry.flip_flip_consistent_iff hc i j).mp hcon)
    exact MapEntry.classify_spoiled htwo (MapEntry.flip_flip_flip_inconsistent hc hne)

end Sys2Proof.Machine
end

section
/-! PROOF. Translation, and MAP WRITE and MAP READ at a ready bridge. -/

namespace Sys2Proof.Machine

/-! ### The steps of a translation (R50) -/

/-- A frame above an offset, as a number. -/
theorem toNat_append_byte {n : Nat} (x : BitVec n) (offset : Byte) :
    (x ++ offset).toNat = 256 * x.toNat + offset.toNat := by
  rw [BitVec.toNat_append, ← Nat.shiftLeft_add_eq_or_of_lt offset.isLt, Nat.shiftLeft_eq, Nat.mul_comm]

/-- Three bits hold an EXCHANGE frame (R50). -/
theorem toNat_setWidth_frame {f : Frame} (h : f.toNat ≤ 7) : (f.setWidth 3).toNat = f.toNat := by
  rw [BitVec.toNat_setWidth, Nat.mod_eq_of_lt (by omega)]

/-- Settles O21: the three tests in order, and the destination as one number. -/
theorem translationFollowsItsSteps : Obligations.TranslationFollowsItsSteps := by
  intro m offset k may hmay
  have hpermits : m.permits k = may := by rw [hmay]; cases k <;> rfl
  cases hv : m.valid with
  | false => simp [MapEntry.resolve, hv]
  | true =>
    cases hp : may with
    | false => simp [MapEntry.resolve, hv, hpermits, hp]
    | true =>
      rw [hp] at hpermits
      cases hx : m.toExchange with
      | false =>
        have haddress : BitVec.ofNat 36 (256 * m.frame.toNat + offset.toNat) = m.frame ++ offset := by
          rw [← toNat_append_byte, BitVec.ofNat_toNat, BitVec.setWidth_eq]
        simp [MapEntry.resolve_span m offset k hv hpermits hx, haddress]
      | true =>
        by_cases hf : m.frame.toNat ≤ 7
        · have hoffset : BitVec.ofNat 11 (256 * m.frame.toNat + offset.toNat) = m.frame.setWidth 3 ++ offset := by
            rw [← toNat_setWidth_frame hf, ← toNat_append_byte, BitVec.ofNat_toNat, BitVec.setWidth_eq]
          simp [MapEntry.resolve_exchange m offset k hv hpermits hx hf, hoffset, hf]
        · have hbeyond : 7 < m.frame.toNat := Nat.lt_of_not_le hf
          simp [MapEntry.resolve, hv, hpermits, hx, hf, hbeyond]

/-! ### MAP WRITE and MAP READ (R45, R46, R55, R56) -/

/-- The last FRAME byte is in range below 16 (R45). -/
theorem frameInRange_iff (b : Byte) : frameInRange b = true ↔ b.toNat < 16 := by
  have hhigh : (b.extractLsb' 4 4).toNat = b.toNat / 16 := by
    have hb := b.isLt
    rw [BitVec.extractLsb'_toNat, Nat.shiftRight_eq_div_pow, Nat.mod_eq_of_lt (by omega)]
  rw [frameInRange, beq_iff_eq, ← BitVec.toNat_inj, hhigh]
  simp

/-- The check byte is in range below 128 (R46). -/
theorem checkInRange_iff (b : Byte) : (!b.getLsbD 7) = true ↔ b.toNat < 128 := by
  have hmsb := BitVec.msb_eq_decide b
  rw [BitVec.msb_eq_getLsbD_last] at hmsb
  show (!b.getLsbD (8 - 1)) = true ↔ b.toNat < 128
  rw [hmsb]
  simp

/-- A ready bridge replaces a map entry after its prelude. -/
theorem State.readyForCommand.setMapEntry {e : State} (h : e.readyForCommand) (index : Byte) (m : MapEntry) :
    (e.started.setMapEntry index m).logBatch = { e.started with map := e.map.set index.toNat m index.isLt } :=
  State.logBatch_nothing _ h.started_raised

/-- Settles O19: MAP WRITE behind the checks of its bytes, MAP READ by the outcome of the entry's check. -/
theorem mapEntriesAreWrittenAndRead : Obligations.MapEntriesAreWrittenAndRead := by
  constructor
  · intro s e index flags b0 b1 b2 b3 check he h
    constructor
    · intro hoff
      show Host.Outcome.next (s.hostWrites (Command.mapWrite.byte :: [index, flags, b0, b1, b2, b3])) = _
      rw [State.commands_ready s e .mapWrite _ (by decide) he h (by simp [Command.owed, hoff]) (by simp)]
      show Host.Outcome.next (e.started.mapWriteCmd index flags b0 b1 b2 b3).logBatch = _
      by_cases hb : b3.toNat < 16
      · rw [State.mapWriteCmd, if_pos ((frameInRange_iff b3).mpr hb), if_pos hb, h.setMapEntry]
        rfl
      · rw [State.mapWriteCmd, if_neg (mt (frameInRange_iff b3).mp hb), if_neg hb, h.paramRange]
    · intro hon
      show Host.Outcome.next (s.hostWrites (Command.mapWrite.byte :: [index, flags, b0, b1, b2, b3, check])) = _
      rw [State.commands_ready s e .mapWrite _ (by decide) he h (by simp [Command.owed, hon]) (by simp)]
      show Host.Outcome.next (e.started.mapWriteSupplied index flags b0 b1 b2 b3 check).logBatch = _
      have hrange : (frameInRange b3 && !check.getLsbD 7) = true ↔ b3.toNat < 16 ∧ check.toNat < 128 := by
        rw [Bool.and_eq_true, frameInRange_iff, checkInRange_iff]
      by_cases hb : b3.toNat < 16 ∧ check.toNat < 128
      · rw [State.mapWriteSupplied, if_pos (hrange.mpr hb), if_pos hb, h.setMapEntry]
        rfl
      · rw [State.mapWriteSupplied, if_neg (mt hrange.mp hb), if_neg hb, h.paramRange]
  · intro s e index m bytes he h hm hbytes
    obtain rfl : bytes = MapEntry.report := funext fun x => funext fun outcome => hbytes x outcome
    have hread : exec (.mapRead [index]) s = .next (e.started.mapReadCmd index).logBatch := by
      show Host.Outcome.next (s.hostWrites (Command.mapRead.byte :: [index])) = _
      rw [State.commands_ready s e .mapRead [index] (by decide) he h rfl (by simp)]
      rfl
    have hentry : e.started.mapEntry index = m := hm.symm
    rw [hread, State.mapReadCmd, State.readMapEntry, hentry]
    refine ⟨fun hc => ?_, fun c hc => ?_, fun hc => ?_⟩ <;> rw [hc]
    · exact congrArg _ (State.logBatch_nothing _ h.started_raised)
    · exact congrArg _ (State.logBatch_raise ((e.started.setMapEntry index c).loadReport (c.report 1)) _ h.runs
        h.started_raised)
    · exact congrArg _ (State.logBatch_raise (e.started.loadReport (m.report 2)) _ h.runs h.started_raised)

end Sys2Proof.Machine
end

section
/-! PROOF. FETCH LOCK at a ready bridge. -/

namespace Sys2Proof.Machine

/-! ### The target of a lock (R97) -/

/-- The doubleword that an EXCHANGE page and an offset name. -/
theorem dwOfOffset_page (frame : Frame) (offset : Byte) (i : DwIndex) (hf : frame.toNat ≤ 7)
    (hi : i.toNat = 32 * frame.toNat + offset.toNat / 8) : dwOfOffset (frame.setWidth 3 ++ offset) = i := by
  have hoffset : (frame.setWidth 3 ++ offset : ExOffset).toNat = 256 * frame.toNat + offset.toNat := by
    rw [← toNat_setWidth_frame hf]
    exact toNat_append_byte (frame.setWidth 3) offset
  have hlt := i.isLt
  apply BitVec.eq_of_toNat_eq
  rw [dwOfOffset, BitVec.extractLsb'_toNat, hoffset, Nat.shiftRight_eq_div_pow]
  omega

/-! ### FETCH LOCK in NONE (R97) -/

/-- A translation that fails raises its fault with the page and the offset of the counters, and the lock stays NONE. -/
theorem State.fetchLock_failed (s : State) (c : FaultCode) (hl : s.ilu.lock.state = .none)
    (hc : (s.mapEntry s.addr.pageCtr).classify = .clean)
    (ht : (s.mapEntry s.addr.pageCtr).resolve (s.addr.offCtr &&& 0xF8#8) .lock = .error c) :
    s.fetchLock = s.raise (mapFault c .lock s.addr.pageCtr s.addr.offCtr) := by
  rw [State.fetchLock, if_pos hl]
  simp only [State.translate_error _ _ _ _ _ _ _ _ hc ht]
  rfl

/-- A translation that succeeds records the lock, resets the CLAIM count and mark, and queues the lock's LOCK-READ. -/
theorem State.fetchLock_recorded (s : State) (t : Translation) (target : LockTarget) (page offset : Byte)
    (hl : s.ilu.lock.state = .none) (hpage : page = s.addr.pageCtr) (hoffset : offset = s.addr.offCtr &&& 0xF8#8)
    (hc : (s.mapEntry page).classify = .clean) (ht : (s.mapEntry page).resolve offset .lock = .ok t)
    (htarget : targetOf t.dest = target) (hq : s.engine.queue.length < 8) :
    s.fetchLock =
      (({ s with
          ilu := { s.ilu with lock := { HostLock.fetch t page offset s.sched.serial with target := some target }
                              claim := { s.ilu.claim with heldCount := 0, used := false } } } :
        State).numbered.queued
          ((HostLock.fetch t page offset s.sched.serial).request .lockFetch .lockRead target [] [] s.sched.serial)) := by
  subst hpage hoffset htarget
  rw [State.fetchLock, if_pos hl]
  simp only [State.translate_ok _ _ _ _ _ _ _ _ hc ht]
  rw [State.placeLock, if_pos (by simpa [State.freeEntry] using hq)]
  rfl

/-- FETCH LOCK at a ready bridge (R5). -/
theorem exec_fetchLock_ready (s e : State) (he : e = s.atHost) (h : e.readyForCommand) :
    exec .fetchLock s = .next e.started.fetchLock.logBatch := by
  show Host.Outcome.next (s.hostWrite Command.fetchLock.byte) = _
  rw [State.command_ready s e .fetchLock (by decide) he h rfl]
  rfl

/-- Settles O17: the state of the lock, the rights and the destination of the page decide, in this order. -/
theorem fetchLockRecordsItsTarget : Obligations.FetchLockRecordsItsTarget := by
  intro s e m offset l r he h hm hoffset hlock hreq
  subst hm hoffset hlock hreq
  rw [exec_fetchLock_ready s e he h]
  have hpermits : (e.mapEntry e.addr.pageCtr).permits .lock =
      ((e.mapEntry e.addr.pageCtr).mayLock && (e.mapEntry e.addr.pageCtr).mayRead) := rfl
  refine ⟨fun hl => ?_, fun hl hc hv hrights => ?_, fun hl hc hv hml hmr hq => ?_⟩
  · have hprotocol : e.started.fetchLock = e.started.raise lockProtocol := if_neg hl
    rw [hprotocol]
    exact congrArg _ (State.logBatch_raise e.started lockProtocol h.runs h.started_raised)
  · have hfails : (e.mapEntry e.addr.pageCtr).resolve (e.addr.offCtr &&& 0xF8#8) .lock = .error .mapRights := by
      simp [MapEntry.resolve, hv, hpermits, hrights]
    rw [State.fetchLock_failed e.started .mapRights hl hc hfails]
    exact congrArg _ (State.logBatch_raise e.started _ h.runs h.started_raised)
  · rw [hml, hmr] at hpermits
    constructor
    · intro hx
      rw [State.fetchLock_recorded e.started _ _ _ _ hl rfl rfl hc
        (MapEntry.resolve_span _ _ .lock hv hpermits hx) rfl hq]
      exact congrArg _ (State.logBatch_nothing _ h.started_raised)
    · intro i hx hf hi
      rw [State.fetchLock_recorded e.started _ (.exchange i) _ _ hl rfl rfl hc
        (MapEntry.resolve_exchange _ _ .lock hv hpermits hx hf) (congrArg _ (dwOfOffset_page _ _ i hf hi)) hq]
      exact congrArg _ (State.logBatch_nothing _ h.started_raised)

end Sys2Proof.Machine
end

section
/-! PROOF. Resets, and the packets that come from other nodes (R57, R67 to R71, R125 to R129, R157, R158). -/

namespace Sys2Proof.Machine

/-! ### Resets (R57, R76, R157, R158) -/

/-- A pin reset of a running bridge remembers the aperture in force (R71, R158). -/
theorem State.startPinReset_running (s : State) (straps : Node) (h : s.power.mode = .running) :
    s.startPinReset straps = s.hold .pin straps s.aperture := by
  simp only [State.startPinReset, h]

/-- The end of a reset begins its initialization (R157, R158). -/
theorem State.endReset_held (s : State) (k : ResetKind) (h : s.power.mode = .held k) :
    s.endReset = { s with power := { s.power with mode := .initializing k } } := by
  simp only [State.endReset, h]

/-- Settles O35: `hold` is the entry into either reset, and the pin reset enters it from the end of the step. -/
theorem resetsHoldTheBridge : Obligations.ResetsHoldTheBridge := by
  intro s e straps he
  refine ⟨rfl, fun hr => ?_, fun k hk => ?_⟩
  · have hmode : e.power.mode = .running := by
      subst he
      simpa [State.running] using hr
    show Host.Outcome.next ((s.enter .between).startPinReset straps) = _
    rw [← he, State.startPinReset_running e straps hmode]
    rfl
  · show Host.Outcome.next s.endReset = _
    rw [State.endReset_held s k hk]

/-! ### Packets without a fault (R141) -/

/-- A packet whose handling meets no fault leaves the state that its handling leaves (R141). -/
theorem State.packetEvent_quiet (s e t : State) (f : State → State) (he : e = s.enter .packets) (hf : f e = t)
    (ht : t.raised = []) : s.packetEvent f = t := by
  rw [State.packetEvent_at s e f he, hf, State.logBatch_nothing t ht]

/-! ### Memory requests (R61, R66, R67, R68) -/

/-- The aperture in force, in numbers: 2048 bytes from its number times 4096 on (R66). -/
theorem State.inAperture_iff (s : State) (a : SpanAddr) :
    inAperture s.aperture a = true ↔
      s.apertureEnabled = true ∧ a.toNat / 4096 = s.apertureNumber.toNat ∧ a.toNat % 4096 < 2048 := by
  have hpage : (a.extractLsb' 12 24).toNat = a.toNat / 4096 := by
    have ha := a.isLt
    rw [BitVec.extractLsb'_toNat, Nat.shiftRight_eq_div_pow]
    omega
  have hlow : a[11] = false ↔ a.toNat % 4096 < 2048 := by
    rw [BitVec.getElem_eq_testBit_toNat, Nat.testBit_eq_decide_div_mod_eq]
    simp only [decide_eq_false_iff_not]
    omega
  have hnumber : s.apertureNumber = a.extractLsb' 12 24 ↔ a.toNat / 4096 = s.apertureNumber.toNat := by
    rw [← BitVec.toNat_inj, hpage, eq_comm]
  cases he : s.apertureEnabled
  · simp [inAperture, State.aperture, he]
  · simp [inAperture, State.aperture, he, hnumber, hlow]

/-- The packet check of a memory request (R61). -/
theorem memoryPacket_passes_iff (p : MemoryPacket) :
    p.passes = true ↔
      p.valueOk = true ∧ (p.words = 1 ∨ p.words = 2 ∨ p.words = 4 ∨ p.words = 8) ∧
        p.address.toNat % (4 * p.words) = 0 ∧ (p.kind = .lockRead ∨ p.kind = .unlockWrite → p.words = 2) := by
  cases hk : p.kind <;> simp [MemoryPacket.passes, MemoryPacket.wellFormed, hk, or_assoc, and_assoc]

/-- The Exchange offset of an address is its place in the aperture (R66). -/
theorem exchangeOffset_eq (a : SpanAddr) : exchangeOffset a = BitVec.ofNat 11 (a.toNat % 2048) := by
  apply BitVec.eq_of_toNat_eq
  simp [exchangeOffset]

/-- The doubleword that the gate decides on (R120). -/
theorem requestDw_eq (p : MemoryPacket) : requestDw p = BitVec.ofNat 8 (p.address.toNat % 2048 / 8) := by
  apply BitVec.eq_of_toNat_eq
  rw [requestDw, dwOfOffset, exchangeOffset_eq, BitVec.extractLsb'_toNat, Nat.shiftRight_eq_div_pow]
  simp

/-- The answers to a memory request, in the order of R67, R71 and R68. -/
theorem State.receiveMemory_decided (e : State) (p : MemoryPacket) (hr : e.running = true) :
    e.receiveMemory p =
      if e.pins.spanReset = true then e.reply none
      else if ¬inAperture e.aperture p.address = true then e.reply none
      else if ¬p.passes = true then e.reply (some .check)
      else if e.power.asleep = true then e.reply (some .full)
      else if e.gateDecision p.kind p.source (requestDw p) = false then (e.raise (gateDenied p)).reply (some .denied)
      else if e.inbound.queue.length < 4 then (e.acceptInbound p).reply (some .taken)
      else e.reply (some .full) := by
  simp only [State.receiveMemory, State.selectionAperture, State.decideMemory, State.inboundRoom, hr, Bool.not_true,
    Bool.false_eq_true, if_false, if_true, Bool.or_eq_true, Bool.not_eq_true', Bool.not_eq_true, decide_eq_true_eq,
    ite_or]

/-- Settles O41: of the answers in their order only DENIED logs a fault, and only TAKEN changes more. -/
theorem memoryRequestsAreDecidedInOrder : Obligations.MemoryRequestsAreDecidedInOrder := by
  intro s e p he hr hraised
  show Host.Outcome.next (s.packetEvent (State.receiveMemory p)) = _
  rw [State.packetEvent_at s e _ he, e.receiveMemory_decided p hr, ← requestDw_eq, ← exchangeOffset_eq]
  simp only [← e.inAperture_iff, ← memoryPacket_passes_iff, apply_ite State.logBatch, State.reply_logBatch,
    State.logBatch_nothing e hraised, State.logBatch_raise e _ hr hraised,
    State.logBatch_nothing (e.acceptInbound p) hraised]
  rfl

/-! ### Notices and fault reports (R69, R71, R127, R128) -/

/-- While SPAN-RESET is asserted no packet of the node kinds is answered (R71). -/
theorem State.receive_silent (e : State) (hr : e.running = true) (hs : e.pins.spanReset = true) :
    (∀ p, e.receiveNotice p = e.reply none) ∧ (∀ p, e.receiveRecall p = e.reply none) ∧
      ∀ q, e.receiveFaultReport q = e.reply none := by
  simp [State.receiveNotice, State.receiveRecall, State.receiveFaultReport, hr, hs]

/-- The packet check of a NOTICE or RECALL (R61). -/
theorem noticePacket_passes (p : NoticePacket) (hvalue : p.valueOk = true) (hlevel : p.level ≤ 3) : p.passes = true := by
  simp [NoticePacket.passes, NoticePacket.wellFormed, hvalue, hlevel]

/-- A NOTICE for this node that passes its check: DENIED, FULL or TAKEN (R127). -/
theorem State.receiveNotice_decided (e : State) (p : NoticePacket) (hr : e.running = true)
    (hs : e.pins.spanReset = false) (hp : p.passes = true) (hd : p.destination = e.power.node) :
    e.receiveNotice p =
      if e.noticeSource p.source = false then e.reply (some .denied)
      else if 14 ≤ (e.notices.queue.filter NoticeRecord.isNotice).length ∨ 16 ≤ e.notices.queue.length then
        e.reply (some .full)
      else (e.queueRecord (.notice p.code) (packetLevel p) p.source).reply (some .taken) := by
  simp [State.receiveNotice, State.decideNotice, State.noticeFull, hr, hs, hp, hd, List.countP_eq_length_filter]

/-- A FAULT-REPORT for this node that passes its check: FULL or TAKEN (R128). -/
theorem State.receiveFaultReport_decided (e : State) (q : FaultReportPacket) (hr : e.running = true)
    (hs : e.pins.spanReset = false) (hp : q.valueOk = true) (hd : q.destination = e.power.node) :
    e.receiveFaultReport q =
      if 16 ≤ e.notices.queue.length then e.reply (some .full)
      else (e.queueRecord (.faultReport q.faultCode q.address) 3 q.source).reply (some .taken) := by
  simp [State.receiveFaultReport, State.decideFaultReport, FaultReportPacket.passes, hr, hs, hp, hd]

/-- Settles O42: the answers of `receiveNotice_decided` and `receiveFaultReport_decided`, none of them with a fault. -/
theorem noticesJoinTheQueue : Obligations.NoticesJoinTheQueue := by
  intro s e p q he hr hraised
  refine ⟨fun hs => ?_, fun hs hvalue hlevel hd => ?_, fun hs hvalue hd => ?_⟩
  · obtain ⟨hnotice, -, hreport⟩ := e.receive_silent hr hs
    exact ⟨congrArg _ (State.packetEvent_quiet s e _ _ he (hnotice p) hraised),
      congrArg _ (State.packetEvent_quiet s e _ _ he (hreport q) hraised)⟩
  · refine congrArg _ (State.packetEvent_quiet s e _ _ he
      (e.receiveNotice_decided p hr hs (noticePacket_passes p hvalue hlevel) hd) ?_)
    split
    · exact hraised
    · split <;> exact hraised
  · refine congrArg _ (State.packetEvent_quiet s e _ _ he (e.receiveFaultReport_decided q hr hs hvalue hd) ?_)
    split <;> exact hraised

/-! ### Recalls (R129) -/

/-- What a RECALL looks for: a NOTICE of its source, level and code (R129). -/
theorem NoticeRecord.recalledBy_iff (r : NoticeRecord) (p : NoticePacket) (hlevel : p.level ≤ 3) :
    r.recalledBy p = true ↔ r.body = .notice p.code ∧ r.level.toNat = p.level ∧ r.source = p.source := by
  have hsame : r.level = packetLevel p ↔ r.level.toNat = p.level := by
    rw [← BitVec.toNat_inj, packetLevel, BitVec.toNat_ofNat, Nat.mod_eq_of_lt (by omega)]
  simp [NoticeRecord.recalledBy, hsame, and_assoc]

/-- The oldest queued match leaves the queue (R129). -/
theorem Notices.recall_queued (n : Notices) (p : NoticePacket) (older newer : List NoticeRecord) (r : NoticeRecord)
    (hq : n.queue = older ++ r :: newer) (hr : r.recalledBy p = true) (ho : ∀ x ∈ older, ¬x.recalledBy p = true) :
    n.recall p = { n with queue := older ++ newer } := by
  have hany : (n.queue.any fun r => r.recalledBy p) = true := by simp [hq, hr]
  rw [Notices.recall, if_pos hany, hq, List.eraseP_append_right _ ho,
    List.eraseP_cons_of_pos (p := fun x : NoticeRecord => x.recalledBy p) hr]

/-- Without a queued match the RECALL is about the taken slot (R129). -/
theorem Notices.recall_unqueued (n : Notices) (p : NoticePacket) (h : ∀ x ∈ n.queue, ¬x.recalledBy p = true) :
    n.recall p = if n.taken.any fun r => r.recalledBy p then { n with withdrawn := true } else n := by
  have hany : ¬(n.queue.any fun r => r.recalledBy p) = true := by simpa using h
  rw [Notices.recall, if_neg hany]

/-- A RECALL for this node that passes its check: DENIED, or TAKEN with its withdrawal (R129). -/
theorem State.receiveRecall_decided (e : State) (p : NoticePacket) (hr : e.running = true)
    (hs : e.pins.spanReset = false) (hp : p.passes = true) (hd : p.destination = e.power.node) :
    e.receiveRecall p =
      if e.noticeSource p.source = false then e.reply (some .denied)
      else ({ e with notices := e.notices.recall p } : State).reply (some .taken) := by
  simp [State.receiveRecall, State.decideRecall, hr, hs, hp, hd]

/-- A RECALL from a permitted source is TAKEN with its withdrawal, and nothing is logged (R129). -/
theorem exec_inboundRecall_taken (s e : State) (p : NoticePacket) (n : Notices) (he : e = s.enter .packets)
    (hr : e.running = true) (hraised : e.raised = []) (hs : e.pins.spanReset = false) (hp : p.passes = true)
    (hd : p.destination = e.power.node) (hsource : e.noticeSource p.source = true) (hn : e.notices.recall p = n) :
    exec (.inboundRecall p) s = .next (State.reply (some .taken) { e with notices := n }) := by
  have hdecided := e.receiveRecall_decided p hr hs hp hd
  rw [if_neg (by simp [hsource]), hn] at hdecided
  exact congrArg _ (State.packetEvent_quiet s e _ _ he hdecided hraised)

/-- Settles O43: what `hit` asks of a record is what `recalledBy` tests, and `Notices.recall` has one outcome per case. -/
theorem recallsWithdrawOneNotice : Obligations.RecallsWithdrawOneNotice := by
  intro s e p hit he hr hraised
  refine ⟨fun hs => ?_, fun hs hvalue hlevel hd hhit => ?_⟩
  · obtain ⟨-, hrecall, -⟩ := e.receive_silent hr hs
    exact congrArg _ (State.packetEvent_quiet s e _ _ he (hrecall p) hraised)
  have hp := noticePacket_passes p hvalue hlevel
  have hmatch : ∀ r, hit r ↔ r.recalledBy p = true := fun r => (hhit r).trans (r.recalledBy_iff p hlevel).symm
  simp only [hmatch]
  refine ⟨fun hsource => ?_, fun hsource => ⟨fun older newer r hq hrec ho => ?_, fun hnone => ⟨?_, ?_⟩⟩⟩
  · have hdecided := e.receiveRecall_decided p hr hs hp hd
    exact congrArg _ (State.packetEvent_quiet s e _ _ he (hdecided.trans (if_pos hsource)) hraised)
  · exact exec_inboundRecall_taken s e p _ he hr hraised hs hp hd hsource
      (e.notices.recall_queued p older newer r hq hrec ho)
  · intro r ht hrec
    refine exec_inboundRecall_taken s e p _ he hr hraised hs hp hd hsource ?_
    rw [e.notices.recall_unqueued p hnone, if_pos (by simp [ht, hrec])]
  · intro hother
    refine exec_inboundRecall_taken s e p e.notices he hr hraised hs hp hd hsource ?_
    rw [e.notices.recall_unqueued p hnone, if_neg (by simpa [Option.any_eq_false] using hother)]

end Sys2Proof.Machine
end

section
/-! PROOF. Send turns, and the receipts that answer the offers made there (R58, R72 to R74, R76, R91, R93). -/

namespace Sys2Proof.Machine

/-! ### Send turns (R58, R73, R74, R82, R91) -/

/-- The retry window of a packet starts at its first offer (R82). -/
theorem State.offerWindow_first (s : State) (w : RetryWindow) (hw : w = .fresh) :
    s.offerWindow w = { timer := some (s.startTimer s.retryLimit), expired := false } := by
  subst hw
  rfl

/-- The head beat of a fresh response list is eligible (R74). -/
theorem State.eligibleBeat_fresh (s : State) (b : OwedBeat) (rest : List OwedBeat) (hb : s.inbound.beats = b :: rest)
    (hh : s.inbound.head = .fresh) : s.eligibleBeat = some b := by
  simp [State.eligibleBeat, hb, hh, HeadOffer.fresh]

/-- No beat is eligible where none is owed, or the head beat waits for a tick boundary (R74). -/
theorem State.eligibleBeat_none (s : State) (h : s.inbound.beats = [] ∨ s.inbound.head.offer = .waiting) :
    s.eligibleBeat = none := by
  rcases h with h | h <;> simp [State.eligibleBeat, h]

/-- The head of a fresh report queue is eligible (R74). -/
theorem State.eligibleReport_fresh (s : State) (r : ReportEntry) (rest : List ReportEntry)
    (hr : s.engine.reports = r :: rest) (hh : s.engine.reportHead = .fresh) : s.eligibleReport = some r := by
  simp [State.eligibleReport, hr, hh, HeadOffer.fresh]

/-- No report is eligible where none is queued, or the head report waits for a tick boundary (R74). -/
theorem State.eligibleReport_none (s : State) (h : s.engine.reports = [] ∨ s.engine.reportHead.offer = .waiting) :
    s.eligibleReport = none := by
  rcases h with h | h <;> simp [State.eligibleReport, h]

/-- The send point's request is eligible unless an abandoned offer awaits its receipt (R74, R93). -/
theorem State.eligibleRequest_some (s : State) (p : SendPoint) (ha : s.engine.abandoned = false)
    (hp : s.engine.sendPoint = some p) (ho : p.offer = .eligible) : s.eligibleRequest = some p := by
  simp [State.eligibleRequest, ha, hp, ho]

/-- The packet of a WRITE to Span (R60). -/
theorem Request.packet_write (r : Request) (node : Node) (tag : Option Tag) (a : SpanAddr) (hd : r.dest = .span a)
    (hk : r.kind = .write) : r.packet node tag = .memory .write node tag a r.words r.confirm r.enables r.data := by
  simp only [Request.packet, hd, Request.confirmFlag, hk]

/-- Settles O40: the first eligible of the three sources, whose window starts with the offer. -/
theorem sendTurnsFollowThePriority : Obligations.SendTurnsFollowThePriority := by
  intro s e he hr ho hs
  have hmay : e.maySend = true := by simp [State.maySend, hr, ho, hs]
  have hturn : exec .sendTurn s = .next e.sendTurn := by subst he; rfl
  rw [hturn]
  refine ⟨fun b rest hb hh => ?_, fun r rest hb hq hh => ?_, fun p a hb hq ha hp hoffer hw hd hk => ?_⟩
  · simp only [State.sendTurn, if_pos hmay, e.eligibleBeat_fresh b rest hb hh, State.offerBeat,
      e.offerWindow_first _ (congrArg HeadOffer.window hh)]
    rfl
  · simp only [State.sendTurn, if_pos hmay, e.eligibleBeat_none hb, e.eligibleReport_fresh r rest hq hh,
      State.offerReport, e.offerWindow_first _ (congrArg HeadOffer.window hh)]
    rfl
  · simp only [State.sendTurn, if_pos hmay, e.eligibleBeat_none hb, e.eligibleReport_none hq,
      e.eligibleRequest_some p ha hp hoffer, State.offerRequest, e.offerWindow_first _ hw,
      Request.packet_write p.req _ p.tag a hd hk]
    rfl

/-! ### Receipts (R72, R73, R76, R91, R93) -/

/-- REPORT_QUEUE_RECEIPT for the offered head report (R76, R91). -/
theorem exec_reportQueueReceipt (s e : State) (r : Receipt) (x : ReportEntry) (rest : List ReportEntry)
    (he : e = s.enter .packets) (ho : e.engine.outstanding = some .report) (hx : e.engine.reports = x :: rest) :
    exec (.reportQueueReceipt r) s = .next (e.reportReceipt x r).logBatch := by
  have hoffered : e.offeredReport = some x := by simp [State.offeredReport, ho, hx]
  subst he
  show execReportQueueReceipt r s = _
  simp only [execReportQueueReceipt, hoffered]
  rfl

/-- A refused report whose window has not expired waits for a tick boundary (R82, R91). -/
theorem State.reportReceipt_refused (s : State) (x : ReportEntry) (r : Receipt) (h : r = .check ∨ r = .full)
    (hw : s.engine.reportHead.window.expired = false) :
    s.reportReceipt x r =
      { s with engine := { s.engine with
          outstanding := none, reportHead := { s.engine.reportHead with offer := .waiting } } } := by
  rcases h with rfl | rfl <;> simp only [State.reportReceipt, hw, Bool.false_eq_true, if_false] <;> rfl

/-- BEAT_RECEIPT for the offered head beat (R72, R76). -/
theorem exec_beatReceipt (s e : State) (r : Receipt) (x : OwedBeat) (rest : List OwedBeat) (he : e = s.enter .packets)
    (ho : e.engine.outstanding = some .beat) (hx : e.inbound.beats = x :: rest) :
    exec (.beatReceipt r) s = .next (e.beatReceipt x r).logBatch := by
  have hoffered : e.offeredBeat = some x := by simp [State.offeredBeat, ho, hx]
  subst he
  show execBeatReceipt r s = _
  simp only [execBeatReceipt, hoffered]
  rfl

/-- The last beat of an entry leaves the response list, and its entry the queue (R72, R121). -/
theorem State.beatLeaves_last (s : State) (x : OwedBeat) (rest : List OwedBeat) (hx : s.inbound.beats = x :: rest)
    (hlast : ∀ y ∈ rest, y.entry ≠ x.entry) :
    s.beatLeaves x =
      { s with inbound := { queue := s.inbound.queue.filter fun q => q.serial != x.entry
                            beats := rest, head := .fresh } } := by
  have hno : ¬(rest.any fun o => o.entry == x.entry) = true := by simpa using hlast
  simp only [State.beatLeaves, hx, List.tail_cons, State.setInbound_inbound, if_neg hno]
  rfl

/-- A beat that another of its entry follows leaves the response list, and the entry stays (R72). -/
theorem State.beatLeaves_more (s : State) (x y : OwedBeat) (rest : List OwedBeat)
    (hx : s.inbound.beats = x :: y :: rest) (hsame : y.entry = x.entry) :
    s.beatLeaves x = { s with inbound := { s.inbound with beats := y :: rest, head := .fresh } } := by
  have hmore : ((y :: rest).any fun o => o.entry == x.entry) = true := by simp [hsame]
  simp only [State.beatLeaves, hx, List.tail_cons, State.setInbound_inbound, if_pos hmore]
  rfl

/-- ABANDONED_OFFER_RECEIPT while the abandoned offer awaits it (R93). -/
theorem exec_abandonedOfferReceipt (s e : State) (r : Receipt) (he : e = s.enter .packets)
    (ho : e.engine.outstanding = some .sendPoint) (ha : e.engine.abandoned = true) :
    exec (.abandonedOfferReceipt r) s = .next (e.abandonedReceipt r).logBatch := by
  subst he
  show execAbandonedOfferReceipt r s = _
  rw [execAbandonedOfferReceipt, if_pos ⟨ha, ho⟩]
  rfl

/-- The abandoned offer of a request without a LOCK-READ's tag is cleared (R93). -/
theorem State.abandonedReceipt_untagged (s : State) (r : Receipt) (h : s.engine.abandonedTag = none) :
    s.abandonedReceipt r = { s with engine := { s.engine with outstanding := none, abandoned := false } } := by
  simp only [State.abandonedReceipt, h, State.clearAbandoned, State.setOutstanding]

/-- The abandoned offer of a lock fetch is cleared; TAKEN lets its tag await the beat, and any other receipt makes it FREE
(R93). -/
theorem State.abandonedReceipt_tagged (s : State) (r : Receipt) (t : Tag) (b : BusyTag)
    (h : s.engine.abandonedTag = some t) (hb : s.tag t = .busy b) (ho : b.req.origin = .lockFetch) :
    s.abandonedReceipt r =
      { s with engine := { s.engine with
          outstanding := none, abandoned := false, abandonedTag := none
          tags := s.engine.tags.set t.val
            (if r = .taken then
              .busy { b with awaiting := true, window := .fresh, response := some (s.startTimer s.responseLimit) }
            else .free) } } := by
  cases r with
  | taken =>
    simp only [State.abandonedReceipt, h, hb, BusyTag.await, if_pos ho, if_true]
    rfl
  | check | full | denied | void =>
    simp only [State.abandonedReceipt, h, reduceCtorEq, if_false]
    rfl

/-- Settles O47: each kind of offer by the receipt, and what leaves its list with a fault or without. -/
theorem otherReceiptsSettleTheirOffers : Obligations.OtherReceiptsSettleTheirOffers := by
  intro s e r he hr hraised
  refine ⟨fun x rest ho hx hw => ?_, fun x rest ho hx hlast => ?_, fun ho => ?_, fun ho ha => ⟨fun ht => ?_, ?_⟩⟩
  · rw [exec_reportQueueReceipt s e r x rest he ho hx]
    have hdropped : (e.setOutstanding none).dropReport =
        { e with engine := { e.engine with outstanding := none, reports := rest, reportHead := .fresh } } := by
      simp only [State.dropReport, State.setOutstanding, hx, List.tail_cons]
    cases r with
    | taken => exact congrArg _ ((congrArg _ hdropped).trans (State.logBatch_nothing _ hraised))
    | check | full =>
      rw [e.reportReceipt_refused x _ (by simp) hw]
      exact congrArg _ (State.logBatch_nothing _ hraised)
    | denied | void =>
      show Host.Outcome.next ((e.setOutstanding none).dropReport.raise (reportDropped x)).logBatch = _
      rw [hdropped]
      exact congrArg _ (State.logBatch_raise _ _ hr hraised)
  · rw [exec_beatReceipt s e r x rest he ho hx]
    have hleft := State.beatLeaves_last (e.setOutstanding none) x rest hx hlast
    cases r with
    | taken => exact congrArg _ ((congrArg _ hleft).trans (State.logBatch_nothing _ hraised))
    | check | full => exact congrArg _ (State.logBatch_nothing _ hraised)
    | denied | void =>
      show Host.Outcome.next (((e.setOutstanding none).beatLeaves x).raise (undelivered x)).logBatch = _
      rw [hleft]
      exact congrArg _ (State.logBatch_raise _ _ hr hraised)
  · subst he
    show execOrphanedReceipt r s = _
    rw [execOrphanedReceipt, if_pos ho]
    exact congrArg _ (State.packetEvent_quiet s _ _ _ rfl rfl hraised)
  · rw [exec_abandonedOfferReceipt s e r he ho ha, e.abandonedReceipt_untagged r ht]
    exact congrArg _ (State.logBatch_nothing _ hraised)
  · intro t b ht hb horigin
    rw [exec_abandonedOfferReceipt s e r he ho ha, e.abandonedReceipt_tagged r t b ht hb horigin]
    exact congrArg _ (State.logBatch_nothing _ hraised)

end Sys2Proof.Machine
end

section
/-! PROOF. Expiries of retry windows (R73, R82, R88, R91, R99). -/

namespace Sys2Proof.Machine

/-- The failure of a host write leaves the send point empty and its tag FREE, and is delivered to no block (R83, R89). -/
theorem State.failSendPoint_hostWrite (s : State) (sp : SendPoint) (t : Tag) (c : FaultCode) (ht : sp.tag = some t)
    (ho : sp.req.origin = .hostWrite) :
    s.failSendPoint sp c =
      State.batched (sp.req.fault c (some t))
        { s with engine := { s.engine with sendPoint := none, tags := s.engine.tags.set t.val .free } } := by
  simp only [State.failSendPoint, State.deliverFailed, ho, ht, State.setTag?]
  rfl

/-- With every tag FREE no tag awaits the beat of a lock fetch. -/
theorem State.lockWindowTag_none (s : State) (h : ∀ t, s.tag t = .free) : s.lockWindowTag = none := by
  simp [State.lockWindowTag, h, TagState.windowDue]

/-- The failure of the lock fetch that the Interlock Unit tracks makes the host lock NONE and releases CLAIM (R98). -/
theorem State.lockFetchFailed_current (serial : Nat) (s : State) (hs : s.ilu.lock.state = .fetching)
    (hc : s.ilu.lock.current = some serial) :
    s.lockFetchFailed serial =
      { s with ilu := { s.ilu with
          lock := { s.ilu.lock with state := .none, target := none, current := none, hold := none }
          claim := { s.ilu.claim with driving := false, timer := none, waiting := false } } } := by
  rw [State.lockFetchFailed, if_pos ⟨hs, hc⟩]
  rfl

/-- With nothing staged, a freed entry of the queue stays free (R35). -/
theorem State.entryFreed_unstaged (s : State) (h : s.streams.staging = none) : s.entryFreed = s := by
  simp [State.entryFreed, State.stagedCanEnter, h]

/-- The current lock fetch, at the head of the queue, fails when its window expires (R88, R98). -/
theorem State.expireLockFetch_queued (s : State) (q : QueueEntry) (rest : List QueueEntry) (ht : ∀ t, s.tag t = .free)
    (hq : s.engine.queue = q :: rest) (hdue : q.windowDue s.sched.tick = true) (ho : q.req.origin = .lockFetch)
    (hs : s.streams.staging = none) (hl : s.ilu.lock.state = .fetching) (hc : s.ilu.lock.current = some q.req.serial) :
    s.expireLockFetch =
      State.batched (q.req.fault .retryExhausted none)
        { s with
          engine := { s.engine with queue := rest }
          ilu := { s.ilu with
            lock := { s.ilu.lock with state := .none, target := none, current := none, hold := none }
            claim := { s.ilu.claim with driving := false, timer := none, waiting := false } } } := by
  have hentry : s.lockWindowEntry = some q := by simp [State.lockWindowEntry, hq, hdue]
  have hremoved : s.removeEntry (QueueEntry.windowDue s.sched.tick) =
      { s with engine := { s.engine with queue := rest } } := by
    rw [State.removeEntry, hq, List.eraseP_cons_of_pos hdue]
  simp only [State.expireLockFetch, s.lockWindowTag_none ht, hentry, hremoved, State.deliverFailed, ho]
  rw [State.lockFetchFailed_current]
  · exact State.entryFreed_unstaged _ hs
  · exact hl
  · exact hc

/-- The head report: an outstanding offer records the expiry, else the report is dropped (R82, R91). -/
theorem State.expireReport_head (s : State) (x : ReportEntry) (rest : List ReportEntry)
    (hx : s.engine.reports = x :: rest) :
    s.expireReport =
      if s.engine.reportHead.offer = .outstanding then
        { s with engine := { s.engine with
            reportHead := { s.engine.reportHead with window := { timer := none, expired := true } } } }
      else
        State.batched (reportDropped x)
          { s with engine := { s.engine with reports := rest, reportHead := .fresh } } := by
  have hexpired : s.expireReport =
      if s.engine.reportHead.offer = .outstanding then
        s.setReportHead { s.engine.reportHead with window := s.engine.reportHead.window.expire }
      else s.failReport x := by simp only [State.expireReport, hx]
  rw [hexpired, State.failReport, State.dropReport, hx]
  rfl

/-- The head beat is dropped, and an outstanding offer of it is orphaned (R73, R76). -/
theorem State.expireBeat_head (s : State) (x : OwedBeat) (rest : List OwedBeat) (hx : s.inbound.beats = x :: rest) :
    s.expireBeat =
      State.dropBeat x
        (s.setOutstanding (if s.engine.outstanding = some .beat then some .orphaned else s.engine.outstanding)) := by
  simp only [State.expireBeat, hx]
  split
  next h => simp only [State.orphanOffer, h, Option.map_some]
  · rfl

/-- Settles O49: the expiry of each block, and the failure that it leads to there. -/
theorem retryWindowsExpire : Obligations.RetryWindowsExpire := by
  intro s e he hr
  refine ⟨fun sp t hn hsp ht ho => ?_, fun q rest hn ht hq hdue ho hs hl hc => ?_, fun x rest hn hx => ?_,
    fun x y rest hn hx hsame => ?_, fun hn => ?_⟩
  · refine congrArg _ ((State.expiryEvent_next s e .sendPoint he hr hn).trans ?_)
    rw [← e.failSendPoint_hostWrite sp t _ ht ho]
    simp only [State.expire, State.expireSendPoint, hsp]
    rfl
  · exact congrArg _ ((State.expiryEvent_next s e .lockFetch he hr hn).trans
      (e.expireLockFetch_queued q rest ht hq hdue ho hs hl hc))
  · exact congrArg _ ((State.expiryEvent_next s e .report he hr hn).trans (e.expireReport_head x rest hx))
  · refine congrArg _ ((State.expiryEvent_next s e .beat he hr hn).trans ?_)
    have hleft := fun o => State.beatLeaves_more (e.setOutstanding o) x y rest hx hsame
    rw [State.expire, e.expireBeat_head x _ hx, State.dropBeat, hleft]
    rfl
  · exact congrArg _ (State.expiryEvent_next s e .kept he hr hn)

end Sys2Proof.Machine
end

section
/-! PROOF. Grants to inbound entries (R63, R72, R106, R107, R121 to R123). -/

namespace Sys2Proof.Machine

/-! ### Writing enabled bytes (R123) -/

/-- A run of bytes inside Exchange Memory, from the byte with number `n` on, writes its enabled bytes and no other: the
induction goes through the number, since the offset after byte 2047 does not exist (R123). -/
theorem Memory.read_writeBytes_from (m : Memory) (n : Nat) (es : List Bool) (bs : List Byte) (a : Nat)
    (h : m.wf = true) (hl : bs.length = es.length) (hin : n + es.length ≤ 2048) :
    (m.writeBytes (BitVec.ofNat 11 n) es bs).read a =
      if n ≤ a ∧ es.getD (a - n) false = true then bs.getD (a - n) 0x00#8 else m.read a := by
  induction es generalizing m n bs with
  | nil => simp [Memory.writeBytes]
  | cons e es ih =>
    obtain _ | ⟨b, bs⟩ := bs
    · simp at hl
    rw [List.length_cons] at hin
    have hn : (BitVec.ofNat 11 n).toNat = n := by rw [BitVec.toNat_ofNat, Nat.mod_eq_of_lt (by omega)]
    have hwf : Memory.wf (if e then m.write n b else m) = true := by
      split
      · exact Memory.wf_write m _ _ h
      · exact h
    have hfirst : Memory.read (if e then m.write n b else m) a = if a = n ∧ e = true then b else m.read a := by
      cases e <;> simp [Memory.read_write m _ _ _ h]
    rw [Memory.writeBytes, hn, ← BitVec.ofNat_add n 1, ih _ (n + 1) bs hwf (by simpa using hl) (by omega), hfirst]
    obtain hlow | rfl | ⟨k, rfl⟩ : a < n ∨ a = n ∨ ∃ k, a = n + 1 + k := by
      rcases Nat.lt_trichotomy a n with hlt | heq | hgt
      · exact .inl hlt
      · exact .inr (.inl heq)
      · exact .inr (.inr (Nat.exists_eq_add_of_le hgt))
    · rw [if_neg (by omega), if_neg (by omega), if_neg (by omega)]
    · simp
    · have hk : n + 1 + k - n = k + 1 := by omega
      have hle : n ≤ n + 1 + k := by omega
      have hne : n + 1 + k ≠ n := by omega
      simp [hk, hle, hne]

/-- A run of bytes inside Exchange Memory writes its enabled bytes and no other (R123). -/
theorem Memory.read_writeBytes (m : Memory) (o : ExOffset) (es : List Bool) (bs : List Byte) (a : Nat)
    (h : m.wf = true) (hl : bs.length = es.length) (hin : o.toNat + es.length ≤ 2048) :
    (m.writeBytes o es bs).read a =
      if o.toNat ≤ a ∧ es.getD (a - o.toNat) false = true then bs.getD (a - o.toNat) 0x00#8 else m.read a := by
  have hfrom := m.read_writeBytes_from o.toNat es bs a h hl hin
  rwa [BitVec.ofNat_toNat, BitVec.setWidth_eq] at hfrom

/-! ### Owed beats (R72, R121) -/

/-- The Inbound Queue and response list once an entry owes beats: the entry is ANSWERING and its beats come last (R72). -/
def Inbound.owing (q : InboundEntry) (bs : List Beat) (i : Inbound) : Inbound :=
  { i with
    queue := i.queue.map fun f => if f.serial = q.serial then { f with answering := true } else f
    beats := i.beats ++ bs.map fun b => { beat := b, entry := q.serial, kind := q.kind, address := q.address } }

/-- A grant that owes beats (R72, R122, R123). -/
theorem State.answer_owing (s : State) (q : InboundEntry) (bs : List Beat) (h : bs ≠ []) :
    s.answer q bs = { s with inbound := s.inbound.owing q bs } := by
  rw [State.answer, if_neg (by simpa using h)]
  rfl

/-- A grant of a writing kind owes the confirmation if CONFIRM is set, and else completes the entry (R121, R123). -/
theorem State.answer_confirmation (s : State) (q : InboundEntry) :
    s.answer q q.confirmation =
      { s with inbound :=
          if q.confirm = true then s.inbound.owing q [q.beat 0 .good 0 0]
          else { s.inbound with queue := s.inbound.queue.filter fun f => f.serial != q.serial } } := by
  cases hc : q.confirm with
  | true =>
    rw [InboundEntry.confirmation, if_pos hc, State.answer_owing s q _ (List.cons_ne_nil _ _)]
    rfl
  | false =>
    rw [InboundEntry.confirmation, if_neg (by simp [hc])]
    rfl

/-- The beat of a 1-word READ holds the word on the side that bit 2 of the address names (R63). -/
theorem InboundEntry.readBeats_one (q : InboundEntry) (bytes : List Byte) (h : q.words = 1) :
    q.readBeats bytes =
      [{ requester := q.source, tag := q.tag, number := 0, status := .good
         word0 := if q.address.getLsbD 2 then 0 else wordOfBytes bytes
         word1 := if q.address.getLsbD 2 then wordOfBytes bytes else 0 }] := by
  rw [InboundEntry.readBeats, if_pos h]
  cases q.address.getLsbD 2 <;> rfl

/-- The beats of a longer READ hold two words each, in address order (R63). -/
theorem InboundEntry.readBeats_pairs (q : InboundEntry) (m : Memory) (h : q.words ≠ 1) :
    q.readBeats (m.readBytes q.offset (4 * q.words)) =
      (List.range (q.words / 2)).map fun k =>
        { requester := q.source, tag := q.tag, number := k, status := .good
          word0 := wordOfBytes (m.readBytes (q.offset + BitVec.ofNat 11 (8 * k)) 4)
          word1 := wordOfBytes (m.readBytes (q.offset + BitVec.ofNat 11 (8 * k + 4)) 4) } := by
  rw [InboundEntry.readBeats, if_neg h]
  refine List.map_congr_left fun k hk => ?_
  have hlt : k < q.words / 2 := List.mem_range.mp hk
  have heven : 4 * (2 * k) = 8 * k := by omega
  have hodd : 4 * (2 * k + 1) = 8 * k + 4 := by omega
  rw [wordAt_readBytes m q.offset _ _ (by omega), wordAt_readBytes m q.offset _ _ (by omega), heven, hodd]
  rfl

/-! ### Inbound READs and WRITEs (R122, R123) -/

/-- A row that grants inbound entries of a kind executes the granted entry (R113). -/
theorem State.passEvent_inbound (s e : State) (q : InboundEntry) (n : Nat) (he : e = s.enter .pass)
    (hr : e.running = true) (hn : e.passNext = some (.grant (.inbound q) n)) :
    s.passEvent (PassAction.grantsInbound q.kind) = (e.counted n).executeInbound q :=
  State.passEvent_next s e _ _ he hr hn (by simp [PassAction.grantsInbound])

/-- Settles O54: the beats that the length of a READ gives, the confirmation of a WRITE, and the bytes that a WRITE
writes. -/
theorem inboundReadsAndWritesAreGranted : Obligations.InboundReadsAndWritesAreGranted := by
  refine ⟨?_, fun m o es bs a h hl hin => ⟨m.wf_writeBytes o es bs h, m.read_writeBytes o es bs a h hl hin⟩⟩
  intro s e n q owes u he hr hn howes hu
  have howes : owes = fun bs => e.inbound.owing q bs := funext howes
  subst howes hu
  have hrow := State.passEvent_inbound s e q n he hr hn
  refine ⟨fun hk hwords => ?_, fun hk hwords => ?_, fun hk => ?_⟩
  · simp only [hk, State.executeInbound, State.inboundRead, hwords, q.readBeats_one _ hwords] at hrow
    exact congrArg _ (hrow.trans (State.answer_owing _ q _ (List.cons_ne_nil _ _)))
  · have hpairs := q.readBeats_pairs e.xmm.mem (by omega)
    have hsome : q.readBeats (e.xmm.mem.readBytes q.offset (4 * q.words)) ≠ [] := by
      rw [hpairs, Ne, List.map_eq_nil_iff, List.range_eq_nil]
      omega
    simp only [hk, State.executeInbound] at hrow
    rw [← hpairs]
    exact congrArg _ (hrow.trans (State.answer_owing (e.counted n) q _ hsome))
  · simp only [hk, State.executeInbound, State.inboundWrite, State.answer_confirmation] at hrow
    exact congrArg _ hrow

/-! ### Inbound LOCK-READs and UNLOCK-WRITEs (R90, R106, R107) -/

/-- The GOOD beat of a granted LOCK-READ holds the two words of its doubleword (R106). -/
theorem InboundEntry.grantBeat_eq (q : InboundEntry) (m : Memory) :
    q.grantBeat m =
      { requester := q.source, tag := q.tag, number := 0, status := .good
        word0 := wordOfBytes (m.readBytes q.offset 4), word1 := wordOfBytes (m.readBytes (q.offset + 4) 4) } := by
  rw [InboundEntry.grantBeat, wordAt_readBytes m q.offset 0 8 (by omega), wordAt_readBytes m q.offset 1 8 (by omega),
    Nat.mul_zero, BitVec.add_zero]
  rfl

/-- The owner's UNLOCK-WRITE removes the entry of the doubleword (R107). -/
theorem State.unlockEntry_owned (s : State) (q : InboundEntry) (t : Tag) (a : SpanAddr) (hold : Timer)
    (h : findLock q.dw s.ilu.table = some { index := q.dw, owner := .node q.source t a hold }) :
    s.unlockEntry q = s.setTable (dropLock q.dw s.ilu.table) := by
  rw [State.unlockEntry, if_pos (by simp [h, LockEntry.ownedBy])]

/-- Whether a report is filed: only with REPORTS on, and dropped with a fault where 2 are queued (R90). -/
theorem State.fileReport_eq (s : State) (r : ReportEntry) :
    s.fileReport r =
      if s.reportsOn = false then s
      else if s.engine.reports.length < 2 then
        { s with engine := { s.engine with reports := s.engine.reports ++ [r] } }
      else s.batched (reportDropped r) := by
  unfold State.fileReport
  cases s.reportsOn <;> rfl

/-- An UNLOCK-WRITE that finds no entry, HOST's or another node's is an orphan (R107). -/
theorem State.unlockEntry_orphan (s : State) (q : InboundEntry)
    (h : findLock q.dw s.ilu.table = none ∨ findLock q.dw s.ilu.table = some { index := q.dw, owner := .host } ∨
      ∃ m t a hold, m ≠ q.source ∧ findLock q.dw s.ilu.table = some { index := q.dw, owner := .node m t a hold }) :
    s.unlockEntry q =
      (s.batched (lockOrphan q.source q.tag q.address)).fileReport
        { dest := q.source, faultCode := 0x16#8, address := q.address } := by
  have hother : ¬((findLock q.dw s.ilu.table).any fun l => l.ownedBy q.source) = true := by
    rcases h with h | h | ⟨m, t, a, hold, hm, h⟩ <;> simp_all [LockEntry.ownedBy]
  rw [State.unlockEntry, if_neg hother]
  rfl

/-- Settles O55: a LOCK-READ by the Lock Table, and an UNLOCK-WRITE by the owner of the doubleword's entry. -/
theorem inboundLocksAreGranted : Obligations.InboundLocksAreGranted := by
  intro s e n q owes done u he hr hn howes hdone hu
  have howes : owes = fun b => e.inbound.owing q [b] := funext howes
  subst howes hu
  have hrow := State.passEvent_inbound s e q n he hr hn
  refine ⟨fun hk => ?_, fun v orphan dropped report hk hv horphan hreport hdropped => ?_⟩
  · simp only [hk, State.executeInbound, State.inboundLockRead, State.lockRefused_iff, q.grantBeat_eq,
      State.answer_owing _ q _ (List.cons_ne_nil _ _)] at hrow
    exact congrArg _ hrow
  · subst hv horphan hreport hdropped hdone
    simp only [hk, State.executeInbound, State.inboundUnlockWrite, State.answer_confirmation] at hrow
    refine ⟨fun t a hold hl => ?_, fun hl => ?_⟩
    · rw [State.unlockEntry_owned ((e.counted n).writeEntry q) q t a hold hl] at hrow
      exact congrArg _ hrow
    · have hunlocked := (State.unlockEntry_orphan ((e.counted n).writeEntry q) q hl).trans (State.fileReport_eq _ _)
      by_cases hoff : e.reportsOn = false
      · rw [hunlocked.trans (if_pos hoff)] at hrow
        rw [if_pos hoff]
        exact congrArg _ hrow
      · by_cases hroom : e.engine.reports.length < 2
        · rw [hunlocked.trans ((if_neg hoff).trans (if_pos hroom))] at hrow
          rw [if_neg hoff, if_pos hroom]
          exact congrArg _ hrow
        · rw [hunlocked.trans ((if_neg hoff).trans (if_neg hroom))] at hrow
          rw [if_neg hoff, if_neg hroom]
          exact congrArg _ hrow

end Sys2Proof.Machine
end

section
/-! PROOF. What a step can do to the Outbound Queue, the tags, Exchange Memory and the bounded tables, said once; and
the bounds that all of it keeps (R77, R90, R105, R112, R114, R121). -/

namespace Sys2Proof.Machine

/-! ### What does not grow -/

/-- The front placement marks of the Outbound Queue, head first: all that the order and bounds of R77 speak of. -/
def Engine.marks (e : Engine) : List Bool := e.queue.map QueueEntry.front

/-- Nothing that has a bound grows from `s` to `t`, and memory stays as it is or is cleared. -/
structure State.Shrinks (s t : State) : Prop where
  marks : t.engine.marks.Sublist s.engine.marks
  busy : t.engine.busyTags ≤ s.engine.busyTags
  reports : t.engine.reports.length ≤ s.engine.reports.length
  table : t.ilu.table.Sublist s.ilu.table
  mem : t.xmm.mem = s.xmm.mem ∨ t.xmm.mem = []
  run : t.xmm.run ≤ s.xmm.run
  inbound : t.inbound.queue.length ≤ s.inbound.queue.length

/-- The order of the Outbound Queue is one of its marks. -/
theorem Engine.frontsFirst_iff (e : Engine) :
    frontsFirst e.queue ↔ e.marks.Pairwise fun a b => b = true → a = true := by
  rw [Engine.marks, List.pairwise_map]; rfl

/-- The front placements are the set marks. -/
theorem Engine.fronts_eq (e : Engine) : e.fronts = e.marks.countP id := by
  rw [Engine.marks, List.countP_map]; rfl

/-- The requests that entered at the tail are the clear marks. -/
theorem Engine.tails_eq (e : Engine) : e.queue.countP (fun q => !q.front) = e.marks.countP (fun m => !m) := by
  rw [Engine.marks, List.countP_map]; rfl

/-- A front placement adds a set mark, and behind the earlier ones is as good as ahead of them (R77). -/
theorem marks_insertFront (e : QueueEntry) (he : e.front = true) (q : List QueueEntry) :
    (insertFront e q).map QueueEntry.front = true :: q.map QueueEntry.front := by
  induction q with
  | nil => simp [insertFront, he]
  | cons f rest ih =>
    rw [insertFront]
    split
    next hf => simp [ih, hf]
    · simp [he]

/-- There are four tags. -/
theorem Engine.busyTags_le_four (e : Engine) : e.busyTags ≤ 4 := by
  have h := List.countP_le_length (p := TagState.isBusy) (l := e.tags.toList)
  rwa [Vector.length_toList] at h

/-- The BUSY tags once one tag changes. -/
theorem State.busyTags_setTag (t : Tag) (st : TagState) (s : State) :
    (s.setTag t st).engine.busyTags + (if (s.tag t).isBusy then 1 else 0) =
      s.engine.busyTags + if st.isBusy then 1 else 0 := by
  have ht : t.val < s.engine.tags.toList.length := by simp
  have hget : s.engine.tags.toList[t.val] = s.tag t := by simp [State.tag, Vector.get_eq_getElem]
  have hset := List.countP_set (p := TagState.isBusy) (a := st) ht
  have hpos : (s.tag t).isBusy = true → 0 < s.engine.tags.toList.countP TagState.isBusy := fun h =>
    List.countP_pos_iff.mpr ⟨s.tag t, hget ▸ List.getElem_mem ht, h⟩
  rw [hget] at hset
  simp only [State.setTag_engine, Engine.busyTags, Vector.toList_set, hset]
  split
  next h => have := hpos h; omega
  · omega

/-- A tag that is not made BUSY, or was BUSY before. -/
theorem State.busyTags_setTag_le {t : Tag} {st : TagState} {s : State}
    (h : st.isBusy = true → (s.tag t).isBusy = true) : (s.setTag t st).engine.busyTags ≤ s.engine.busyTags := by
  have hset := s.busyTags_setTag t st
  cases hst : st.isBusy with
  | false => simp only [hst, Bool.false_eq_true, if_false] at hset; omega
  | true => simp only [hst, h hst, if_true] at hset; omega

/-! ### What a step can do -/

/-- The one-piece changes of the structures that have a bound. Every other change of state lets them shrink. -/
inductive State.Change : State → State → Prop
  /-- Nothing grows. -/
  | shrinks {s t : State} (h : s.Shrinks t) : Change s t
  /-- A request enters at the tail, where fewer than 8 have (R77). -/
  | enters (s : State) (r : Request) (h : s.engine.marks.countP (fun m => !m) < 8) : Change s (s.enqueue r)
  /-- A BUSY tag gives way to a front placement (R86, R88, R94). -/
  | reoffers (s : State) (t : Tag) (st : TagState) (e : QueueEntry) (ht : (s.tag t).isBusy = true)
      (hst : st.isBusy = false) (he : e.front = true) : Change s ((s.setTag t st).enqueueFront e)
  /-- The head of the queue gives way to a BUSY tag (R79, R84). -/
  | moves (s : State) (t : Tag) (b : BusyTag) : Change s (s.dequeue.setTag t (.busy b))
  /-- A run of enabled bytes is written to Exchange Memory (R123). -/
  | writes (s : State) (o : ExOffset) (es : List Bool) (bs : List Byte) :
      Change s (s.setMem (s.xmm.mem.writeBytes o es bs))
  /-- The arbiter's count takes a value of its range (R114). -/
  | counts (s : State) (run : Nat) (h : run ≤ 4) : Change s (s.counted run)
  /-- A doubleword without an entry gets one, where the Lock Table has room (R99, R106). -/
  | locks (s : State) (i : DwIndex) (o : LockOwner) (h : s.lockRefused i = false) : Change s (s.addLock i o)
  /-- A report is filed, where fewer than 2 are queued (R90). -/
  | files (s : State) (e : ReportEntry) (h : s.engine.reports.length < 2) :
      Change s { s with engine := { s.engine with reports := s.engine.reports ++ [e] } }
  /-- A request enters the Inbound Queue, where it has room (R68, R121). -/
  | accepts (s : State) (p : MemoryPacket) (h : s.inboundRoom = true) : Change s (s.acceptInbound p)

/-- Any number of such changes, one after another. -/
def State.Changes (s t : State) : Prop := Relation.ReflTransGen State.Change s t

/-- Everything that has a bound is the same in two states. -/
@[simp] def State.SameParts (s t : State) : Prop :=
  t.engine.queue = s.engine.queue ∧ t.engine.tags = s.engine.tags ∧ t.engine.reports = s.engine.reports ∧
    t.ilu.table = s.ilu.table ∧ t.xmm = s.xmm ∧ t.inbound.queue = s.inbound.queue

/-- No change at all. -/
theorem State.Changes.refl (s : State) : s.Changes s := Relation.ReflTransGen.refl

/-- Changes after changes. -/
theorem State.Changes.trans {s t u : State} (h : s.Changes t) (h' : t.Changes u) : s.Changes u :=
  Relation.ReflTransGen.trans h h'

/-- One change. -/
theorem State.Change.changes {s t : State} (h : s.Change t) : s.Changes t := .single h

/-- Where nothing grows. -/
theorem State.Shrinks.changes {s t : State} (h : s.Shrinks t) : s.Changes t := (State.Change.shrinks h).changes

/-- Where everything that has a bound is the same. -/
theorem State.Changes.of_same {s t : State} (same : s.SameParts t) : s.Changes t := by
  obtain ⟨hqueue, htags, hreports, htable, hxmm, hinbound⟩ := same
  exact State.Shrinks.changes
    { marks := by rw [Engine.marks, hqueue]; exact List.Sublist.refl _
      busy := by rw [Engine.busyTags, htags]; exact Nat.le_refl _
      reports := by rw [hreports]
      table := by rw [htable]
      mem := .inl (by rw [hxmm])
      run := by rw [hxmm]
      inbound := by rw [hinbound] }

/-- Changes, and then what leaves everything that has a bound alone. -/
theorem State.Changes.then_same {s t u : State} (h : s.Changes t) (same : t.SameParts u) : s.Changes u :=
  h.trans (.of_same same)

/-- Changes, after what leaves everything that has a bound alone. -/
theorem State.Changes.after_same {s t u : State} (h : t.Changes u) (same : s.SameParts t) : s.Changes u :=
  (State.Changes.of_same same).trans h

/-! ### The bounds -/

/-- A change keeps the order and bounds of the Outbound Queue (R77). -/
theorem State.Change.queueSound {s t : State} (h : s.Change t) (hs : s.engine.queueSound) : t.engine.queueSound := by
  obtain ⟨horder, hbound, htails⟩ := hs
  rw [Engine.frontsFirst_iff] at horder
  rw [Engine.fronts_eq] at hbound
  rw [Engine.tails_eq] at htails
  unfold Engine.queueSound
  rw [Engine.frontsFirst_iff, Engine.fronts_eq, Engine.tails_eq]
  cases h with
  | shrinks h =>
    have hfronts := h.marks.countP_le (p := id)
    have hbusy := h.busy
    exact ⟨horder.sublist h.marks, by omega, (h.marks.countP_le).trans htails⟩
  | enters r hroom =>
    have hmarks : (s.enqueue r).engine.marks = s.engine.marks ++ [false] := by simp [Engine.marks, QueueEntry.tail]
    have hbusy : (s.enqueue r).engine.busyTags = s.engine.busyTags := rfl
    rw [hmarks, hbusy]
    refine ⟨List.pairwise_append.mpr ⟨horder, List.pairwise_singleton _ _, by simp⟩, by simpa using hbound, ?_⟩
    simp only [List.countP_append, List.countP_singleton, Bool.not_false, if_true]
    omega
  | reoffers t st e ht hst he =>
    have hmarks : ((s.setTag t st).enqueueFront e).engine.marks = true :: s.engine.marks := marks_insertFront e he _
    have hbusy : ((s.setTag t st).enqueueFront e).engine.busyTags + 1 = s.engine.busyTags := by
      have hset := s.busyTags_setTag t st
      simp only [ht, hst, if_true, Bool.false_eq_true, if_false, Nat.add_zero] at hset
      exact hset
    rw [hmarks]
    refine ⟨List.pairwise_cons.mpr ⟨fun _ _ _ => rfl, horder⟩, ?_, by simpa using htails⟩
    simp only [List.countP_cons, id, if_true]
    omega
  | moves t b =>
    have hmarks : (s.dequeue.setTag t (.busy b)).engine.marks = s.engine.marks.tail := List.map_tail
    have hfour := (s.dequeue.setTag t (.busy b)).engine.busyTags_le_four
    have hbusy : (s.dequeue.setTag t (.busy b)).engine.busyTags ≤ s.engine.busyTags + 1 := by
      have hset := s.dequeue.busyTags_setTag t (.busy b)
      have hsame : s.dequeue.engine.busyTags = s.engine.busyTags := rfl
      simp only [TagState.isBusy, if_true, hsame] at hset
      omega
    have htail := s.engine.marks.tail_sublist
    refine ⟨hmarks ▸ horder.sublist htail, ?_, hmarks ▸ (htail.countP_le).trans htails⟩
    rw [hmarks]
    cases hhead : s.engine.marks with
    | nil => simpa using hfour
    | cons m rest =>
      rw [hhead] at horder hbound
      cases m with
      | true =>
        simp only [List.countP_cons, id, if_true, List.tail_cons] at hbound ⊢
        omega
      | false =>
        have hclear : rest.countP id = 0 := List.countP_eq_zero.mpr fun x hx hset =>
          absurd ((List.pairwise_cons.mp horder).1 x hx hset) (by simp)
        simpa [hclear] using hfour
  | writes | counts | locks | files | accepts => exact ⟨horder, hbound, htails⟩

/-- Memory, the arbiter's count and the tables are within their bounds (R90, R105, R112, R114, R121). -/
def State.tablesSound (s : State) : Prop := s.xmm.sound ∧ tableSound s.ilu.table ∧ s.boundsSound

/-- A change keeps memory, the arbiter's count and the tables within their bounds. -/
theorem State.Change.tablesSound {s t : State} (h : s.Change t) (hs : s.tablesSound) : t.tablesSound := by
  obtain ⟨⟨hwf, hrange, hrun⟩, ⟨hlen, hdistinct⟩, hreports, hinbound⟩ := id hs
  cases h with
  | shrinks h =>
    have hmem : t.xmm.mem.wf = true ∧ ∀ c ∈ t.xmm.mem, c.1 < 2048 := by
      rcases h.mem with hsame | hclear
      · rw [hsame]; exact ⟨hwf, hrange⟩
      · rw [hclear]; exact ⟨rfl, by simp⟩
    exact ⟨⟨hmem.1, hmem.2, h.run.trans hrun⟩, ⟨h.table.length_le.trans hlen, hdistinct.sublist h.table⟩,
      h.reports.trans hreports, h.inbound.trans hinbound⟩
  | enters | reoffers | moves => exact hs
  | writes o es bs =>
    exact ⟨⟨Memory.wf_writeBytes _ o es bs hwf, Memory.inRange_writeBytes _ o es bs hrange, hrun⟩,
      ⟨hlen, hdistinct⟩, hreports, hinbound⟩
  | counts run hle => exact ⟨⟨hwf, hrange, hle⟩, ⟨hlen, hdistinct⟩, hreports, hinbound⟩
  | locks i o hfree =>
    obtain ⟨hnone, hroom⟩ : findLock i s.ilu.table = none ∧ s.ilu.table.length < 4 := by
      simpa [State.lockRefused] using hfree
    have hnew : ∀ e ∈ s.ilu.table, e.index ≠ i := by simpa [findLock] using hnone
    refine ⟨⟨hwf, hrange, hrun⟩, ⟨?_, ?_⟩, hreports, hinbound⟩
    · simp only [State.addLock, State.setTable_ilu, List.length_append, List.length_singleton]
      omega
    · exact List.pairwise_append.mpr ⟨hdistinct, List.pairwise_singleton _ _, by simpa using hnew⟩
  | files e hroom =>
    refine ⟨⟨hwf, hrange, hrun⟩, ⟨hlen, hdistinct⟩, ?_, hinbound⟩
    simp only [List.length_append, List.length_singleton]
    omega
  | accepts p hroom =>
    have hlt : s.inbound.queue.length < 4 := by simpa [State.inboundRoom] using hroom
    refine ⟨⟨hwf, hrange, hrun⟩, ⟨hlen, hdistinct⟩, hreports, ?_⟩
    show (s.inbound.queue ++ [_]).length ≤ 4
    simp only [List.length_append, List.length_singleton]
    omega

/-- What every change keeps, any number of them keep. -/
theorem State.Changes.induct {P : State → Prop} (hP : ∀ s t : State, s.Change t → P s → P t) {s t : State}
    (h : s.Changes t) (hs : P s) : P t := by
  induction h with
  | refl => exact hs
  | tail _ hchange ih => exact hP _ _ hchange ih

end Sys2Proof.Machine
end

section
/-! PROOF. That every operation of the bridge is a chain of the changes of `State.Change`. -/

namespace Sys2Proof.Machine

/-! ### The Lock Table under what changes other parts of the Interlock Unit -/

@[simp] theorem State.lockNone_table (s : State) : s.lockNone.ilu.table = s.ilu.table := rfl
@[simp] theorem State.releaseClaim_table (s : State) : s.releaseClaim.ilu.table = s.ilu.table := rfl
@[simp] theorem State.driveClaim_table (s : State) : s.driveClaim.ilu.table = s.ilu.table := rfl
@[simp] theorem State.trackLock_table (st : LockState) (s : State) : (s.trackLock st).ilu.table = s.ilu.table := rfl
@[simp] theorem State.lockGranted_table (st : DataStatus) (data : List Byte) (s : State) :
    (s.lockGranted st data).ilu.table = s.ilu.table := rfl

@[simp] theorem State.assertionTest_table (s : State) : s.assertionTest.ilu.table = s.ilu.table := by
  unfold State.assertionTest
  split
  · split <;> rfl
  · rfl

@[simp] theorem State.claimExam_table (s : State) : s.claimExam.ilu.table = s.ilu.table := by
  unfold State.claimExam
  split <;> rfl

@[simp] theorem State.countHeld_table (serial : Nat) (s : State) : (s.countHeld serial).ilu.table = s.ilu.table := by
  unfold State.countHeld
  split <;> simp

@[simp] theorem State.lockFetchDone_table (serial : Nat) (st : DataStatus) (data : List Byte) (s : State) :
    (s.lockFetchDone serial st data).ilu.table = s.ilu.table := by
  unfold State.lockFetchDone
  split <;> rfl

@[simp] theorem State.lockFetchFailed_table (serial : Nat) (s : State) :
    (s.lockFetchFailed serial).ilu.table = s.ilu.table := by
  unfold State.lockFetchFailed
  split <;> rfl

@[simp] theorem State.unlockEnded_table (serial : Nat) (s : State) :
    (s.unlockEnded serial).ilu.table = s.ilu.table := by
  unfold State.unlockEnded
  split <;> rfl

@[simp] theorem State.deliverDone_table (r : Request) (st : DataStatus) (data : List Byte) (s : State) :
    (s.deliverDone r st data).ilu.table = s.ilu.table := by
  unfold State.deliverDone
  split <;> simp

@[simp] theorem State.deliverFailed_table (r : Request) (s : State) :
    (s.deliverFailed r).ilu.table = s.ilu.table := by
  unfold State.deliverFailed
  split <;> simp

/-! ### The Outbound Queue and its callers (R34, R35, R38, R42, R96) -/

/-- A queue of fewer than 8 requests has fewer than 8 that entered at the tail. -/
theorem State.enqueue_changes {s : State} (r : Request) (h : s.freeEntry = true) : s.Changes (s.enqueue r) := by
  have hlt : s.engine.queue.length < 8 := by simpa [State.freeEntry] using h
  have hcount := List.countP_le_length (p := fun m => !m) (l := s.engine.marks)
  rw [Engine.marks, List.length_map] at hcount
  exact (State.Change.enters s r (by rw [Engine.marks]; omega)).changes

/-- The placing of a host request (R35). -/
theorem State.place_changes (r : Request) (s : State) : s.Changes (s.place r) := by
  unfold State.place
  split
  next hfree => exact State.enqueue_changes r hfree
  · split <;> exact .of_same (by simp)

/-- The placing of a lock request (R96). -/
theorem State.placeLock_changes (r : Request) (s : State) : s.Changes (s.placeLock r) := by
  unfold State.placeLock
  split
  next hfree => exact State.enqueue_changes r hfree
  · split <;> exact .of_same (by simp)

/-- The entry of the staged request, where the queue has a free entry (R35). -/
theorem State.enterStaged_changes {s : State} (h : s.freeEntry = true) : s.Changes s.enterStaged := by
  unfold State.enterStaged
  split
  · exact .refl s
  next r _ =>
    have hunstaged : s.Changes { s with streams := { s.streams with staging := none } } := .of_same (by simp)
    have hentered := hunstaged.trans (State.enqueue_changes r h)
    simp only
    split
    · exact hentered
    next d _ =>
      exact hentered.trans ((State.place_changes d _).after_same (by simp))

/-- An entry of the queue has freed (R35). -/
theorem State.entryFreed_changes (s : State) : s.Changes s.entryFreed := by
  unfold State.entryFreed
  split
  next h => exact State.enterStaged_changes (Bool.and_eq_true_iff.mp h).1
  · exact .refl s

/-- The placing of the waiting lock request (R96). -/
theorem State.placeWaiting_changes (s : State) : s.Changes s.placeWaiting := by
  unfold State.placeWaiting
  split
  · exact .refl s
  next r _ =>
    have htaken : s.Changes { s with ilu := { s.ilu with waiting := none } } := .of_same (by simp)
    exact htaken.trans (State.placeLock_changes r _)

/-- The seal of the open pack (R34). -/
theorem State.seal_changes (s : State) : s.Changes s.seal := by
  unfold State.seal
  split
  · exact .refl s
  · simp only
    split
    · exact .of_same (by simp)
    · exact (State.place_changes _ _).after_same (by simp)

/-- A data byte in WRITE STREAM (R32). -/
theorem State.mergeByte_changes (b : Byte) (s : State) : s.Changes (s.mergeByte b) := by
  have hother : s.Changes s.sealOther := by
    unfold State.sealOther
    split
    · split
      · exact .refl s
      · exact s.seal_changes
    · exact .refl s
  have hmerged : s.Changes (s.sealOther.setPack (s.packHere.put s.addr.offCtr b)) :=
    hother.then_same (by simp)
  unfold State.mergeByte
  simp only
  split
  · exact (hmerged.trans (State.seal_changes _)).then_same (by simp)
  · exact hmerged.then_same (by simp)

/-- A demand fetch (R38). -/
theorem State.demandFetch_changes (s : State) : s.Changes s.demandFetch := by
  unfold State.demandFetch
  simp only
  split
  · exact .of_same (by simp)
  · exact (State.place_changes _ _).after_same (by simp)

/-- The look-ahead test and its fetch (R42). -/
theorem State.lookAhead_changes (s : State) : s.Changes s.lookAhead := by
  unfold State.lookAhead
  split
  · split
    · exact .refl s
    · split
      next hroom =>
        have hfree : s.engine.queue.length < 8 := by
          simpa [State.freeEntry] using (Bool.and_eq_true_iff.mp hroom).1
        simp only
        split
        · exact .of_same (by simp)
        · split
          · exact (State.enqueue_changes _ (by simpa [State.freeEntry] using hfree)).after_same (by simp)
          · exact .of_same (by simp)
      · exact .refl s
  · exact .refl s

/-- The step after a served read, and where it leads (R40, R41). -/
theorem State.stepAndMove_changes (s : State) : s.Changes s.stepAndMove := by
  have hstep : s.Changes s.stepMajor := .of_same (by simp)
  unfold State.stepAndMove
  simp only
  split
  · refine hstep.trans ?_
    unfold State.moveOn
    split
    · exact (State.demandFetch_changes _).after_same (by simp)
    · exact .of_same (by simp)
  · exact hstep

/-- A data read in READ STREAM (R40). -/
theorem State.serveRead_changes (s : State) : s.Changes s.serveRead.1 := by
  have hopened : s.Changes s.openCurrent := .of_same (by simp)
  unfold State.serveRead
  split
  · simp only
    split
    · exact State.stepAndMove_changes s
    · exact (hopened.trans (State.lookAhead_changes _)).trans (State.stepAndMove_changes _)
  · exact hopened.trans (State.stepAndMove_changes _)
  · exact .of_same (by simp)
  · exact .of_same (by simp)

/-! ### The Interlock Unit (R90, R97 to R108) -/

/-- FETCH LOCK (R97). -/
theorem State.fetchLock_changes (s : State) : s.Changes s.fetchLock := by
  unfold State.fetchLock
  split
  · simp only
    split
    · exact .of_same (by simp)
    · exact (State.placeLock_changes _ _).after_same (by simp)
  · exact .of_same (by simp)

/-- A request that the Interlock Unit tracks and places (R100, R101). -/
theorem State.trackLock_placeLock_changes (st : LockState) (r : Request) (s : State) :
    s.Changes ((s.trackLock st).placeLock r) := by
  exact (State.placeLock_changes _ _).after_same (by simp)

/-- STORE UNLOCK (R100). -/
theorem State.storeUnlock_changes (enables : Byte) (data : List Byte) (s : State) :
    s.Changes (s.storeUnlock enables data) := by
  unfold State.storeUnlock
  split
  · exact State.trackLock_placeLock_changes _ _ _
  · exact .of_same (by simp)

/-- RELEASE LOCK (R101). -/
theorem State.releaseLock_changes (s : State) : s.Changes s.releaseLock := by
  unfold State.releaseLock
  split
  · exact State.trackLock_placeLock_changes _ _ _
  · exact .of_same (by simp)

/-- The filing of a report (R90). -/
theorem State.fileReport_changes (e : ReportEntry) (s : State) : s.Changes (s.fileReport e) := by
  unfold State.fileReport
  split
  · split
    next hroom => exact (State.Change.files s e hroom).changes
    · exact .of_same (by simp)
  · exact .refl s

/-- Entries that leave the Lock Table. -/
theorem State.setTable_changes {t : List LockEntry} {s : State} (h : t.Sublist s.ilu.table) :
    s.Changes (s.setTable t) :=
  State.Shrinks.changes
    { marks := List.Sublist.refl _, busy := Nat.le_refl _, reports := Nat.le_refl _, table := h, mem := .inl rfl
      run := Nat.le_refl _, inbound := Nat.le_refl _ }

/-- The removal of a doubleword's entry (R107, R108). -/
theorem State.dropLock_changes (i : DwIndex) (s : State) : s.Changes (s.setTable (dropLock i s.ilu.table)) :=
  State.setTable_changes List.filter_sublist

/-- The removal of HOST's entry for a doubleword (R102, R103). -/
theorem State.dropHostLock_changes (i : DwIndex) (s : State) :
    s.Changes (s.setTable (dropHostLock i s.ilu.table)) :=
  State.setTable_changes List.filter_sublist

/-- The expiry of a node's hold timer (R108). -/
theorem State.expireNodeLock_changes (i : DwIndex) (s : State) : s.Changes (s.expireNodeLock i) := by
  unfold State.expireNodeLock
  split
  · exact (s.dropLock_changes i).trans ((State.fileReport_changes _ _).after_same (by simp))
  · exact .refl s

/-- The expiry of the host lock's hold timer (R103). -/
theorem State.expireHostHold_changes (s : State) : s.Changes s.expireHostHold := by
  have habandoned : s.Changes (s.raise (s.ilu.lock.fault .lockAbandoned)) := .of_same (by simp)
  unfold State.expireHostHold
  simp only
  split
  next i _ => exact (habandoned.trans (State.dropHostLock_changes i _)).then_same (by simp)
  · exact habandoned.trans (State.trackLock_placeLock_changes _ _ _)
  · exact habandoned.then_same (by simp)

/-- An attempt of an Exchange lock fetch (R99). -/
theorem State.attemptLock_changes (r : Request) (window : Option Timer) (s : State) :
    s.Changes (s.attemptLock r window) := by
  unfold State.attemptLock
  split
  · exact .of_same (by simp [State.keepFetch])
  next hgranted =>
    have hdropped : s.Changes s.dropKept := .of_same (by simp)
    have hfree : s.dropKept.lockRefused r.dw = false := Bool.eq_false_iff.mpr hgranted
    exact (hdropped.trans (State.Change.locks s.dropKept r.dw .host hfree).changes).then_same (by simp)

end Sys2Proof.Machine
end

section
/-! PROOF. The outbound side of the Span Engine as a chain of the changes of `State.Change`. -/

namespace Sys2Proof.Machine

/-! ### Delivery (R89) -/

/-- A completion changes nothing that has a bound. -/
theorem State.deliverDone_changes (r : Request) (st : DataStatus) (data : List Byte) (s : State) :
    s.Changes (s.deliverDone r st data) := .of_same (by simp)

/-- A failure changes nothing that has a bound. -/
theorem State.deliverFailed_changes (r : Request) (s : State) : s.Changes (s.deliverFailed r) := .of_same (by simp)

/-! ### Tags (R80 to R88, R93) -/

/-- A tag that is not made BUSY, or was BUSY before. -/
theorem State.setTag_changes {t : Tag} {st : TagState} {s : State}
    (h : st.isBusy = true → (s.tag t).isBusy = true) : s.Changes (s.setTag t st) :=
  State.Shrinks.changes
    { marks := List.Sublist.refl _, busy := State.busyTags_setTag_le h, reports := Nat.le_refl _
      table := List.Sublist.refl _, mem := .inl rfl, run := Nat.le_refl _, inbound := Nat.le_refl _ }

/-- A tag becomes FREE. -/
theorem State.freeTag_changes (t : Tag) (s : State) : s.Changes (s.setTag t .free) :=
  State.setTag_changes (by simp [TagState.isBusy])

/-- The tag that a request may hold becomes FREE. -/
theorem State.freeTag?_changes (t : Option Tag) (s : State) : s.Changes (s.setTag? t .free) := by
  cases t with
  | none => exact .refl s
  | some t => exact s.freeTag_changes t

/-- A tag enters QUARANTINE (R87). -/
theorem State.quarantine_changes (t : Tag) (s : State) : s.Changes (s.quarantine t) :=
  State.setTag_changes (by simp [TagState.isBusy])

/-- A BUSY tag stays BUSY. -/
theorem State.setTag_busy_changes {t : Tag} {b : BusyTag} (c : BusyTag) {s : State} (h : s.tag t = .busy b) :
    s.Changes (s.setTag t (.busy c)) :=
  State.setTag_changes fun _ => by rw [h]; rfl

/-- A BUSY tag gives way to a front placement (R86, R88, R94). -/
theorem State.reoffer_changes {t : Tag} {b : BusyTag} {st : TagState} {e : QueueEntry} {s : State}
    (h : s.tag t = .busy b) (hst : st.isBusy = false) (he : e.front = true) :
    s.Changes ((s.setTag t st).enqueueFront e) :=
  (State.Change.reoffers s t st e (by rw [h]; rfl) hst he).changes

/-- Entries that leave the queue, or change in all but their marks. -/
theorem State.queue_changes {q : List QueueEntry} {s : State}
    (h : (q.map QueueEntry.front).Sublist s.engine.marks) :
    s.Changes { s with engine := { s.engine with queue := q } } :=
  State.Shrinks.changes
    { marks := h, busy := Nat.le_refl _, reports := Nat.le_refl _, table := List.Sublist.refl _, mem := .inl rfl
      run := Nat.le_refl _, inbound := Nat.le_refl _ }

/-- The head leaves the queue. -/
theorem State.dequeue_changes (s : State) : s.Changes s.dequeue :=
  State.queue_changes ((List.tail_sublist _).map _)

/-- The head moves to the send point (R79). -/
theorem State.moveHead_changes (e : QueueEntry) (s : State) : s.Changes (s.moveHead e) := by
  have hmoved : ∀ tag : Option Tag, s.Changes (s.dequeue.setTag? tag (.busy (.bind e))) := by
    rintro (_ | t)
    · exact s.dequeue_changes
    · exact (State.Change.moves s t (.bind e)).changes
  have hset : ∀ (p : Option SendPoint) (u : State), u.Changes (u.setSendPoint p) := fun _ _ => .of_same (by simp)
  exact (hmoved _).trans (hset _ _)

/-! ### Receipts of the send point's offer (R80 to R83, R93) -/

/-- The failure of the send point's request (R83). -/
theorem State.failSendPoint_changes (sp : SendPoint) (c : FaultCode) (s : State) :
    s.Changes (s.failSendPoint sp c) := by
  unfold State.failSendPoint
  exact ((State.freeTag?_changes sp.tag _).after_same (by simp)).trans (State.deliverFailed_changes _ _)

/-- TAKEN (R80, R81). -/
theorem State.sendPointTaken_changes (sp : SendPoint) (s : State) : s.Changes (s.sendPointTaken sp) := by
  have hfreed : s.Changes ((s.raiseRecovered sp).setSendPoint none) := .of_same (by simp)
  unfold State.sendPointTaken
  simp only
  split
  · exact (hfreed.trans (State.freeTag?_changes sp.tag _)).then_same (by simp)
  · split
    · exact hfreed
    · split
      next hb => exact hfreed.trans (State.setTag_busy_changes _ hb)
      · exact hfreed
      · exact hfreed

/-- CHECK and FULL (R82). -/
theorem State.sendPointRefused_changes (sp : SendPoint) (s : State) : s.Changes (s.sendPointRefused sp) := by
  unfold State.sendPointRefused
  split
  · exact (State.failSendPoint_changes sp _ _).after_same (by simp)
  · exact .of_same (by simp)

/-- The receipt of an offer of the send point's request. -/
theorem State.sendPointReceipt_changes (sp : SendPoint) (r : Receipt) (s : State) :
    s.Changes (s.sendPointReceipt sp r) := by
  cases r with
  | taken => exact (State.sendPointTaken_changes sp _).after_same (by simp)
  | check | full => exact (State.sendPointRefused_changes sp _).after_same (by simp)
  | denied | void => exact (State.failSendPoint_changes sp _ _).after_same (by simp)

/-- The receipt of an abandoned offer (R93). -/
theorem State.abandonedReceipt_changes (r : Receipt) (s : State) : s.Changes (s.abandonedReceipt r) := by
  have hcleared : s.Changes (s.setOutstanding none).clearAbandoned := .of_same (by simp)
  unfold State.abandonedReceipt
  simp only
  split
  · exact hcleared
  · split
    next hb => exact hcleared.trans (State.setTag_busy_changes _ hb)
    · exact hcleared
    · exact hcleared
    all_goals exact hcleared.trans (State.freeTag_changes _ _)

/-! ### The beat scoreboard (R85, R86, R88, R94) -/

/-- A transaction that fails at its tag. -/
theorem State.failTag_changes (t : Tag) (b : BusyTag) (c : FaultCode) (s : State) : s.Changes (s.failTag t b c) := by
  unfold State.failTag
  exact ((State.quarantine_changes t _).after_same (by simp)).trans (State.deliverFailed_changes _ _)

/-- A transaction that completes at its BUSY tag (R86, R94). -/
theorem State.completeTag_changes {t : Tag} {c : BusyTag} (b : BusyTag) {s : State} (h : s.tag t = .busy c) :
    s.Changes (s.completeTag t b) := by
  unfold State.completeTag
  split
  · exact (State.reoffer_changes (st := .free) (e := .atFront (b.req.abortReleaseOf s.sched.serial)) h rfl
      rfl).then_same (by simp)
  · exact ((State.freeTag_changes t _).after_same (by simp)).trans (State.deliverDone_changes _ _ _ _)

/-- A HELD beat at its BUSY tag (R88). -/
theorem State.heldBeat_changes {t : Tag} {c : BusyTag} (b : BusyTag) {s : State} (h : s.tag t = .busy c) :
    s.Changes (s.heldBeat t b) := by
  unfold State.heldBeat
  split
  · exact s.freeTag_changes t
  · split
    · exact (s.freeTag_changes t).then_same (by simp)
    · exact (State.reoffer_changes (st := .free)
        (e := { QueueEntry.atFront b.req with window := b.window, waitTick := true }) h rfl rfl).then_same (by simp)

/-- A beat from another node (R85). -/
theorem State.scoreBeat_changes (p : Beat) (s : State) : s.Changes (s.scoreBeat p) := by
  have hstray : s.Changes (s.strayBeat p.tag) := .of_same (by simp [State.strayBeat])
  unfold State.scoreBeat
  split
  · exact hstray
  · exact hstray
  next b hb =>
    split
    · exact hstray
    · split
      · exact State.failTag_changes _ _ _ _
      · split
        · split
          · exact State.heldBeat_changes b hb
          · exact State.failTag_changes _ _ _ _
        · unfold State.recordBeat
          split
          · exact State.completeTag_changes _ hb
          · exact State.setTag_busy_changes _ hb

/-! ### Expiries of the outbound side (R82, R86, R87, R88, R91) -/

/-- A response timer (R86). -/
theorem State.expireResponse_changes (t : Tag) (s : State) : s.Changes (s.expireResponse t) := by
  unfold State.expireResponse
  split
  next b hb =>
    split
    · exact State.reoffer_changes hb rfl rfl
    · split
      · exact s.quarantine_changes t
      · exact State.failTag_changes _ _ _ _
  · exact .refl s
  · exact .refl s

/-- The send point's retry window (R82). -/
theorem State.expireSendPoint_changes (s : State) : s.Changes s.expireSendPoint := by
  unfold State.expireSendPoint
  split
  · exact .refl s
  · split
    · exact .of_same (by simp)
    · exact State.failSendPoint_changes _ _ _

/-- An entry that leaves the queue, wherever it stands. -/
theorem State.removeEntry_changes (p : QueueEntry → Bool) (s : State) : s.Changes (s.removeEntry p) :=
  State.queue_changes (List.eraseP_sublist.map _)

/-- The retry window of a lock fetch away from the send point (R88). -/
theorem State.expireLockFetch_changes (s : State) : s.Changes s.expireLockFetch := by
  unfold State.expireLockFetch
  split
  · split
    next hb => exact State.setTag_busy_changes _ hb
    · exact .refl s
    · exact .refl s
  · split
    · exact .refl s
    · exact ((s.removeEntry_changes (QueueEntry.windowDue s.sched.tick)).then_same (by simp)).trans
        (State.entryFreed_changes _)

/-- The head of the report queue leaves it (R91). -/
theorem State.dropReport_changes (s : State) : s.Changes s.dropReport :=
  State.Shrinks.changes
    { marks := List.Sublist.refl _, busy := Nat.le_refl _, reports := by simp [State.dropReport]
      table := List.Sublist.refl _, mem := .inl rfl, run := Nat.le_refl _, inbound := Nat.le_refl _ }

/-- The head of the report queue is dropped (R91). -/
theorem State.failReport_changes (e : ReportEntry) (s : State) : s.Changes (s.failReport e) :=
  s.dropReport_changes.then_same (by simp [State.failReport])

/-- The receipt of an offer of the report queue's head (R91). -/
theorem State.reportReceipt_changes (e : ReportEntry) (r : Receipt) (s : State) :
    s.Changes (s.reportReceipt e r) := by
  cases r with
  | taken => exact (State.dropReport_changes _).after_same (by simp)
  | denied | void => exact (State.failReport_changes _ _).after_same (by simp)
  | check | full =>
    simp only [State.reportReceipt]
    split
    · exact (State.failReport_changes _ _).after_same (by simp)
    · exact .of_same (by simp)

/-- The retry window of the report queue's head (R91). -/
theorem State.expireReport_changes (s : State) : s.Changes s.expireReport := by
  unfold State.expireReport
  split
  · exact .refl s
  · split
    · exact .of_same (by simp)
    · exact State.failReport_changes _ _

/-! ### ABORT and the resets (R92 to R94, R104, R157 to R160) -/

/-- ABORT makes no tag BUSY (R93). -/
theorem State.abortTag_isBusy (s : State) (t : Tag) : (s.abortTag t).isBusy = true → (s.tag t).isBusy = true := by
  unfold State.abortTag
  split
  next h => simp [TagState.isBusy]
  next h => simp [TagState.isBusy]
  next h => simp [h, TagState.isBusy]

/-- The tags, one by one. -/
theorem State.ofFn_tag (s : State) : Vector.ofFn s.tag = s.engine.tags := by
  ext i hi
  simp [State.tag, Vector.get_eq_getElem]

/-- Tags that become BUSY only where they were. -/
theorem State.busyTags_ofFn_le {f : Tag → TagState} {s : State}
    (h : ∀ t, (f t).isBusy = true → (s.tag t).isBusy = true) :
    (Vector.ofFn f).toList.countP TagState.isBusy ≤ s.engine.busyTags := by
  rw [Engine.busyTags, ← s.ofFn_tag, Vector.toList_ofFn, Vector.toList_ofFn, List.ofFn_eq_map, List.ofFn_eq_map,
    List.countP_map, List.countP_map]
  exact List.countP_mono_left fun t _ => h t

/-- The discards of ABORT (R92, R93). -/
theorem State.abortDiscard_changes (s : State) : s.Changes s.abortDiscard :=
  State.Shrinks.changes
    { marks := List.filter_sublist.map _, busy := State.busyTags_ofFn_le s.abortTag_isBusy
      reports := Nat.le_refl _, table := List.Sublist.refl _, mem := .inl rfl, run := Nat.le_refl _
      inbound := Nat.le_refl _ }

/-- ABORT (R92 to R94, R104): no request that entered at the tail survives it, so the release finds room. -/
theorem State.abort_changes (s : State) : s.Changes s.abort := by
  have hsurvivors : s.abortDiscard.engine.marks.countP (fun m => !m) = 0 := by
    rw [Engine.marks, List.countP_map]
    refine List.countP_eq_zero.mpr fun e he => ?_
    have hsurvives : e.survivesAbort = true := (List.mem_filter.mp he).2
    simp_all [QueueEntry.survivesAbort]
  have hreleased : ∀ (b : Bool) (u : State), u.engine = s.abortDiscard.engine → u.Changes (u.abandonRelease b) := by
    intro b u hu
    unfold State.abandonRelease
    split
    · have htaken : u.takeSerial.engine = s.abortDiscard.engine := hu
      refine (State.Change.enters u.takeSerial _ ?_).changes.after_same (by simp)
      rw [htaken, hsurvivors]
      decide
    · exact .refl u
    · exact .refl u
  have hreported : s.Changes
      (if s.abortDiscards then s.abortDiscard.raise (bareFault .aborted .outbound) else s.abortDiscard) := by
    split
    · exact s.abortDiscard_changes.then_same (by simp)
    · exact s.abortDiscard_changes
  refine (hreported.trans (hreleased s.abandonReleases _ ?_)).then_same (by simp [State.abort])
  split <;> rfl

/-- The RESTART pair (R159). -/
theorem State.restart_changes (s : State) : s.Changes s.restart :=
  State.Shrinks.changes
    { marks := List.nil_sublist _
      busy := by
        have hmap : s.restart.engine.tags =
            Vector.ofFn fun t => (s.tag t).restarted s.startQuarantine := by
          ext i hi
          simp [State.restart, State.restartedEngine, State.tag, Vector.get_eq_getElem]
        rw [Engine.busyTags, hmap]
        exact State.busyTags_ofFn_le fun t => by cases s.tag t <;> simp [TagState.restarted, TagState.isBusy]
      reports := Nat.zero_le _, table := List.nil_sublist _, mem := .inl rfl, run := Nat.zero_le _
      inbound := Nat.zero_le _ }

/-- An assertion of SPAN-RESET (R160). -/
theorem State.assertSpanReset_changes (s : State) : s.Changes s.assertSpanReset :=
  State.Shrinks.changes
    { marks := List.nil_sublist _, busy := Nat.zero_le _
      reports := Nat.zero_le _, table := List.nil_sublist _, mem := .inl rfl, run := Nat.zero_le _
      inbound := Nat.zero_le _ }

/-- The start of a pin reset (R158). -/
theorem State.startPinReset_changes (straps : Node) (s : State) : s.Changes (s.startPinReset straps) := by
  unfold State.startPinReset
  split
  · exact .of_same ⟨rfl, rfl, rfl, rfl, rfl, rfl⟩
  · exact .refl s
  · exact .of_same ⟨rfl, rfl, rfl, rfl, rfl, rfl⟩

/-- The end of initialization (R157, R158). -/
theorem State.endInitialization_changes (s : State) : s.Changes s.endInitialization := by
  unfold State.endInitialization
  split
  next k _ =>
    have hmem : (s.initialized k).xmm.mem = s.xmm.mem ∨ (s.initialized k).xmm.mem = [] := by
      cases k <;> simp [State.initialized]
    exact State.Shrinks.changes
      { marks := List.nil_sublist _, busy := Nat.zero_le _, reports := Nat.zero_le _, table := List.nil_sublist _
        mem := hmem, run := Nat.zero_le _, inbound := Nat.zero_le _ }
  · exact .refl s
  · exact .refl s

end Sys2Proof.Machine
end

section
/-! PROOF. Inbound service, received packets, processing steps and host cycles as chains of the changes of
`State.Change`. -/

namespace Sys2Proof.Machine

/-! ### The Inbound Queue and the response list (R72, R73, R121) -/

/-- An Inbound Queue that is no longer than before. -/
theorem State.setInbound_changes {i : Inbound} {s : State} (h : i.queue.length ≤ s.inbound.queue.length) :
    s.Changes (s.setInbound i) :=
  State.Shrinks.changes
    { marks := List.Sublist.refl _, busy := Nat.le_refl _, reports := Nat.le_refl _, table := List.Sublist.refl _
      mem := .inl rfl, run := Nat.le_refl _, inbound := h }

/-- A completed entry leaves the queue (R121). -/
theorem State.completeEntry_changes (serial : Nat) (s : State) : s.Changes (s.completeEntry serial) :=
  State.setInbound_changes List.filter_sublist.length_le

/-- The end of a grant (R121). -/
theorem State.answer_changes (e : InboundEntry) (bs : List Beat) (s : State) : s.Changes (s.answer e bs) := by
  unfold State.answer
  split
  · exact s.completeEntry_changes _
  · exact State.setInbound_changes (by simp)

/-- The head beat leaves the list (R72). -/
theorem State.beatLeaves_changes (b : OwedBeat) (s : State) : s.Changes (s.beatLeaves b) := by
  have hgone : s.Changes (s.setInbound { s.inbound with beats := s.inbound.beats.tail, head := .fresh }) :=
    State.setInbound_changes (Nat.le_refl _)
  unfold State.beatLeaves
  simp only
  split
  · exact hgone
  · exact hgone.trans (State.completeEntry_changes _ _)

/-- The head beat is dropped (R73). -/
theorem State.dropBeat_changes (b : OwedBeat) (s : State) : s.Changes (s.dropBeat b) :=
  (s.beatLeaves_changes b).then_same (by simp [State.dropBeat])

/-- The receipt of an offer of the head beat (R72, R73). -/
theorem State.beatReceipt_changes (b : OwedBeat) (r : Receipt) (s : State) : s.Changes (s.beatReceipt b r) := by
  cases r with
  | taken => exact (State.beatLeaves_changes b _).after_same (by simp)
  | check | full => exact .of_same (by simp [State.beatReceipt, State.setBeatHead])
  | denied | void => exact (State.dropBeat_changes b _).after_same (by simp)

/-- The retry window of the head beat (R73). -/
theorem State.expireBeat_changes (s : State) : s.Changes s.expireBeat := by
  unfold State.expireBeat
  split
  · exact .refl s
  · refine (State.dropBeat_changes _ _).after_same ?_
    split <;> simp [State.orphanOffer]

/-! ### Grants (R78, R99, R106, R107, R114, R122, R123) -/

/-- An inbound LOCK-READ (R106). -/
theorem State.inboundLockRead_changes (e : InboundEntry) (s : State) : s.Changes (s.inboundLockRead e) := by
  unfold State.inboundLockRead
  split
  · exact s.answer_changes e _
  next hgranted =>
    exact (State.Change.locks s e.dw _ (Bool.eq_false_iff.mpr hgranted)).changes.trans (State.answer_changes e _ _)

/-- The Lock Table's part of an inbound UNLOCK-WRITE (R107). -/
theorem State.unlockEntry_changes (e : InboundEntry) (s : State) : s.Changes (s.unlockEntry e) := by
  unfold State.unlockEntry
  split
  · exact s.dropLock_changes _
  · exact (State.fileReport_changes _ _).after_same (by simp)

/-- A granted inbound entry. -/
theorem State.executeInbound_changes (e : InboundEntry) (s : State) : s.Changes (s.executeInbound e) := by
  have hwritten : s.Changes (s.writeEntry e) := (State.Change.writes s _ _ _).changes
  unfold State.executeInbound
  split
  · exact s.answer_changes e _
  · exact hwritten.trans (State.answer_changes e _ _)
  · exact s.inboundLockRead_changes e
  · exact (hwritten.trans (State.unlockEntry_changes e _)).trans (State.answer_changes e _ _)

/-- A local head (R78). -/
theorem State.executeLocal_changes (r : Request) (s : State) : s.Changes (s.executeLocal r) := by
  have hwritten : s.Changes (s.writeLocal r) := (State.Change.writes s _ _ _).changes
  unfold State.executeLocal
  split
  · exact State.deliverDone_changes _ _ _ _
  · exact hwritten.trans (State.deliverDone_changes _ _ _ _)
  · exact s.attemptLock_changes r none
  · exact (hwritten.trans (State.dropHostLock_changes r.dw _)).trans (State.deliverDone_changes _ _ _ _)
  all_goals exact .refl s

/-- The count that the arbiter decides on stays in 0 to 4 (R114, R115). -/
theorem State.arbitrate_run_le {s : State} {g : Grant} {run : Nat} (h : s.arbitrate = some (g, run)) : run ≤ 4 := by
  unfold State.arbitrate at h
  split at h
  · obtain ⟨-, rfl⟩ := Prod.mk.inj (Option.some.inj h)
    omega
  · split at h
    all_goals
      obtain ⟨-, rfl⟩ := Prod.mk.inj (Option.some.inj h)
      omega
  · obtain ⟨-, rfl⟩ := Prod.mk.inj (Option.some.inj h)
    omega
  · cases h

/-- A grant of the arbiter (R113 to R115). -/
theorem State.grant_changes {s : State} {g : Grant} {run : Nat} (h : run ≤ 4) : s.Changes (s.grant g run) := by
  have hcounted : s.Changes (s.counted run) := (State.Change.counts s run h).changes
  refine hcounted.trans ?_
  cases g with
  | inbound e => exact State.executeInbound_changes e _
  | kept k => exact State.attemptLock_changes _ _ _
  | head r => exact (State.dequeue_changes _).trans (State.executeLocal_changes r _)

/-! ### Received packets and send turns (R68, R70, R74) -/

/-- A memory request from another node (R68). -/
theorem State.receiveMemory_changes (p : MemoryPacket) (s : State) : s.Changes (s.receiveMemory p) := by
  have hdecided : s.Changes (s.decideMemory p) := by
    unfold State.decideMemory
    split
    · exact .of_same (by simp)
    · split
      · exact .of_same (by simp)
      · split
        · exact .of_same (by simp)
        · split
          next hroom => exact (State.Change.accepts s p hroom).changes.then_same (by simp)
          · exact .of_same (by simp)
  unfold State.receiveMemory
  simp only
  split
  · exact .of_same (by simp)
  · split
    · exact .of_same (by simp)
    · exact hdecided

/-- A beat from another node (R70). -/
theorem State.receiveBeat_changes (p : BeatPacket) (s : State) : s.Changes (s.receiveBeat p) := by
  unfold State.receiveBeat State.decideBeat
  split
  · exact .of_same (by simp)
  · split
    · exact .of_same (by simp)
    · split
      · exact .of_same (by simp)
      · exact (s.scoreBeat_changes p.beat).then_same (by simp)

/-- A send turn (R74). -/
theorem State.sendTurn_changes (s : State) : s.Changes s.sendTurn := by
  unfold State.sendTurn
  split
  · split
    · exact .of_same (by simp [State.offerBeat, State.setBeatHead])
    · exact .of_same (by simp [State.offerReport])
    · exact .of_same (by simp [State.offerRequest])
    · exact .refl s
  · exact .refl s

/-! ### Processing steps (R116, R164) -/

/-- Every expiry. -/
theorem State.expire_changes (t : TimerId) (s : State) : s.Changes (s.expire t) := by
  cases t with
  | response tag => exact s.expireResponse_changes tag
  | sendPoint => exact s.expireSendPoint_changes
  | lockFetch => exact s.expireLockFetch_changes
  | report => exact s.expireReport_changes
  | beat => exact s.expireBeat_changes
  | nodeHold i => exact s.expireNodeLock_changes i
  | hostHold => exact s.expireHostHold_changes
  | kept => exact .of_same (by simp [State.expire, State.expireKept])
  | claim => exact .of_same (by simp [State.expire, State.expireClaim])
  | quarantine tag => exact s.freeTag_changes tag

/-- Any number of expiries. -/
theorem State.expireAll_changes (n : Nat) (s : State) : s.Changes (s.expireAll n) := by
  induction n generalizing s with
  | zero => exact .refl s
  | succ n ih =>
    rw [State.expireAll]
    split
    · exact .refl s
    next t _ => exact (s.expire_changes t).trans (ih _)

/-- What waited for the tick boundary (R148). -/
theorem State.releaseWaiting_changes (s : State) : s.Changes s.releaseWaiting :=
  State.Shrinks.changes
    { marks := by
        have hmarks : s.releaseWaiting.engine.marks = s.engine.marks := by
          simp [Engine.marks, State.releaseWaiting, QueueEntry.atTick, Function.comp_def]
        rw [hmarks]
      busy := Nat.le_refl _, reports := Nat.le_refl _, table := List.Sublist.refl _
      mem := .inl rfl, run := Nat.le_refl _, inbound := Nat.le_refl _ }

/-- The end of the timer phase. -/
theorem State.finishTimers_changes (s : State) : s.Changes s.finishTimers :=
  ((s.expireAll_changes s.timerCount).trans (State.releaseWaiting_changes _)).then_same (by simp [State.finishTimers])

/-- The next action of the pass. -/
theorem State.passAct_changes {s : State} {a : PassAction} (h : s.passNext = some a) : s.Changes (s.passAct a) := by
  unfold State.passNext at h
  split at h
  next hstaged =>
    obtain rfl := Option.some.inj h
    exact State.enterStaged_changes (Bool.and_eq_true_iff.mp hstaged).1
  · split at h
    · obtain rfl := Option.some.inj h
      exact s.placeWaiting_changes
    · split at h
      next e _ =>
        obtain rfl := Option.some.inj h
        exact s.moveHead_changes e
      · unfold State.nextGrant at h
        split at h
        · obtain ⟨⟨g, run⟩, harbitrated, rfl⟩ := Option.map_eq_some_iff.mp h
          exact State.grant_changes (State.arbitrate_run_le harbitrated)
        · cases h

/-- Any number of actions of the pass. -/
theorem State.passAll_changes (n : Nat) (s : State) : s.Changes (s.passAll n) := by
  induction n generalizing s with
  | zero => exact .refl s
  | succ n ih =>
    rw [State.passAll]
    split
    · exact .refl s
    next a ha => exact (State.passAct_changes ha).trans (ih _)

/-- Leaving the timer phase. -/
theorem State.leaveTimers_changes (s : State) : s.Changes s.leaveTimers := by
  unfold State.leaveTimers
  split
  · exact s.finishTimers_changes
  · exact .refl s

/-- Coming to the pass. -/
theorem State.startPass_changes (s : State) : s.Changes s.startPass := by
  unfold State.startPass
  simp only
  split <;> exact .of_same (by simp)

/-- The end of a step. -/
theorem State.closeStep_changes (s : State) : s.Changes s.closeStep := by
  unfold State.closeStep
  split
  · exact .refl s
  · have hpass : s.Changes s.toPass := by
      unfold State.toPass
      split
      · exact .refl s
      · exact s.leaveTimers_changes.trans (State.startPass_changes _)
    exact (hpass.trans (State.passAll_changes 16 _)).then_same (by simp)

/-- The step reaches the phase of an event. -/
theorem State.enter_changes (p : Phase) (s : State) : s.Changes (s.enter p) := by
  have hopen : ∀ u : State, u.Changes (u.openStep p) := by
    intro u
    cases p with
    | pass => exact u.startPass_changes
    | timers | between | spanLine | claimLine | packets | host | exam => exact .of_same (by simp [State.openStep])
  have hadvance : s.Changes (s.advance p) := by
    unfold State.advance
    split
    · exact .refl s
    · cases p with
      | pass => exact s.leaveTimers_changes.trans (State.startPass_changes _)
      | timers => exact .of_same (by simp)
      | between | spanLine | claimLine | packets | host | exam => exact s.leaveTimers_changes.then_same (by simp)
  unfold State.enter
  split
  · exact .refl s
  · split
    · exact s.closeStep_changes
    · split
      · exact hadvance
      · exact s.closeStep_changes.trans (hopen _)

end Sys2Proof.Machine
end

section
/-! PROOF. Host cycles and every command as chains of the changes of `State.Change`, and the two invariants that
follow. -/

namespace Sys2Proof.Machine

/-! ### Host cycles (chapter 1) -/

/-- Every command (section 1.3). -/
theorem State.execute_changes (c : Command) (ps : List Byte) (s : State) : s.Changes (s.execute c ps) := by
  cases c with
  | readStream => 
    exact ((State.demandFetch_changes s.invalidate).after_same (by simp)).then_same
      (by simp [State.execute, State.readStreamCmd])
  | fetchLock => exact s.fetchLock_changes
  | storeUnlock => exact State.storeUnlock_changes _ _ s
  | releaseLock => exact s.releaseLock_changes
  | sendNotice | sendRecall =>
    simp only [State.execute, State.sendCmd]
    split
    · exact (State.place_changes _ _).after_same (by simp)
    · exact .of_same (by simp)
  | abort => exact s.abort_changes
  | restart => exact s.restart_changes
  | mapWrite =>
    simp only [State.execute]
    split <;> exact .of_same (by simp)
  | nop | setPage | setOffset | setAddress | direction | windowLimit | nextLine | reload | clearCounters | writeStream
  | drain | mapRead | gateWrite | gateRead | set | report | takeNotice | faultRelease | faultClear | sleep | wake =>
    exact .of_same (by simp [State.execute])

/-- The prelude of a command byte (R5). -/
theorem State.commandPrelude_changes (skipSeal : Bool) (s : State) : s.Changes (s.commandPrelude skipSeal) := by
  have hsealed : s.Changes (if skipSeal then s.clearLatch else s.clearLatch.seal) := by
    split
    · exact .of_same (by simp)
    · exact (State.seal_changes _).after_same (by simp)
  exact hsealed.then_same (by simp [State.commandPrelude])

/-- A command byte (R5, R6, R12). -/
theorem State.commandByte_changes (b : Byte) (s : State) : s.Changes (s.commandByte b) := by
  have hdecoded : ∀ (c : Option Command) (u : State), u.Changes (u.decode c) := by
    intro c u
    unfold State.decode
    split
    · exact .of_same (by simp)
    · split
      · exact State.execute_changes _ _ u
      · exact .of_same (by simp)
  unfold State.commandByte
  split
  · exact .of_same (by simp)
  · split
    · unfold State.restartByte
      split
      · exact s.restart_changes
      · exact .of_same (by simp)
    · exact ((State.commandPrelude_changes _ _).after_same (by simp)).trans (hdecoded _ _)

/-- A write with CD = 1 (R1, R7, R10). -/
theorem State.writeCommand_changes (b : Byte) (s : State) : s.Changes (s.writeCommand b) := by
  have hparameter : ∀ u : State, u.Changes (u.parameter b) := by
    intro u
    unfold State.parameter
    split
    · exact .refl u
    · split
      · exact (State.execute_changes _ _ _).after_same (by simp)
      · exact .of_same (by simp)
  unfold State.writeCommand
  split
  · exact .refl s
  · split
    · split
      · exact (State.commandByte_changes b _).after_same (by simp)
      · exact .of_same (by simp)
    · split
      · exact (hparameter _).after_same (by simp)
      · exact s.commandByte_changes b

/-- A write with CD = 0 (R13). -/
theorem State.writeData_changes (b : Byte) (s : State) : s.Changes (s.writeData b) := by
  unfold State.writeData
  split
  · exact .refl s
  · split
    · exact .of_same (by simp)
    · split
      · exact (State.mergeByte_changes b _).after_same (by simp)
      · exact .of_same (by simp)

/-- A read with CD = 0 (R14). -/
theorem State.readData_changes (s : State) : s.Changes s.readData := by
  have hserved : ∀ u : State, u.Changes u.serveDataRead.1 := by
    intro u
    unfold State.serveDataRead
    split
    · exact u.serveRead_changes
    all_goals exact .of_same (by simp)
  unfold State.readData
  split
  · exact ((hserved (s.setHalf false)).after_same (by simp)).then_same (by simp)
  · exact .of_same (by simp)

/-! ### Events -/

/-- A host cycle in its place in the step (R164). -/
theorem State.hostCycle_changes {f : State → State} (hf : ∀ u : State, u.Changes (f u)) (s : State) :
    s.Changes (s.hostCycle f) := by
  have hselected : s.Changes ((s.enter .host).select true) := (s.enter_changes .host).then_same (by simp)
  exact (hselected.trans (hf _)).then_same (by simp [State.hostCycle])

/-- Successive writes with CD = 1. -/
theorem State.hostWrites_changes (bs : List Byte) (s : State) : s.Changes (s.hostWrites bs) := by
  induction bs generalizing s with
  | nil => exact .refl s
  | cons b bs ih => exact (State.hostCycle_changes (State.writeCommand_changes b) s).trans (ih _)

/-- A received packet in its place in the step (R164). -/
theorem State.packetEvent_changes {f : State → State} (hf : ∀ u : State, u.Changes (f u)) (s : State) :
    s.Changes (s.packetEvent f) :=
  ((s.enter_changes .packets).trans (hf _)).then_same (by simp [State.packetEvent])

/-- An expiry row. -/
theorem State.expiryEvent_changes (t : TimerId) (s : State) : s.Changes (s.expiryEvent t) := by
  unfold State.expiryEvent
  split
  · exact (s.enter_changes .timers).trans (State.expire_changes t _)
  · exact .refl s

/-- A row of the pass. -/
theorem State.passEvent_changes (w : PassAction → Bool) (s : State) : s.Changes (s.passEvent w) := by
  unfold State.passEvent
  split
  · split
    next a ha =>
      exact (s.enter_changes .pass).trans (State.passAct_changes (Option.filter_eq_some_iff.mp ha).1)
    · exact .refl s
  · exact .refl s

/-- Every command is a chain of the changes of `State.Change`. -/
theorem exec_changes (i : Instr) (s : State) : ∃ t, exec i s = .next t ∧ s.Changes t := by
  cases i with
  | nop | unknownCommandByte | nextLine | reload | clearCounters | writeStream | readStream | drain | fetchLock
  | releaseLock | takeNotice | faultRelease | abort | restartFirstByte | sleep | wake | parameterByte | restart =>
    exact ⟨_, rfl, State.hostCycle_changes (State.writeCommand_changes _) s⟩
  | setPage | setOffset | setAddress | direction | windowLimit | storeUnlock | mapWrite | mapRead | gateWrite | gateRead
  | set | sendNotice | sendRecall | faultClear | reportCounters | reportFault | reportSummary | reportEngine
  | reportStatistics | reportSetting | reportLock | reportTaken =>
    exact ⟨_, rfl, State.hostWrites_changes _ s⟩
  | reportIdentity => exact ⟨_, rfl, (State.hostWrites_changes _ _).after_same (by simp)⟩
  | dataByte => exact ⟨_, rfl, State.hostCycle_changes (State.writeData_changes _) s⟩
  | dataRead => exact ⟨_, rfl, State.hostCycle_changes State.readData_changes s⟩
  | csRelease => exact ⟨_, rfl, (s.enter_changes .host).then_same (by simp [State.releaseSelect])⟩
  | drainComplete =>
    refine ⟨_, rfl, ?_⟩
    split
    · exact (s.enter_changes .pass).trans (State.closeStep_changes _)
    · exact .refl s
  | powerOnReset => exact ⟨_, rfl, .of_same ⟨rfl, rfl, rfl, rfl, rfl, rfl⟩⟩
  | pinReset => exact ⟨_, rfl, (s.enter_changes .between).trans (State.startPinReset_changes _ _)⟩
  | resetEnd => exact ⟨_, rfl, .of_same (by simp)⟩
  | resetInitializationEnd => exact ⟨_, rfl, s.endInitialization_changes⟩
  | spanResetAssertion =>
    refine ⟨_, rfl, ?_⟩
    split
    · exact .refl s
    · split
      · exact ((s.enter_changes .spanLine).trans (State.assertSpanReset_changes _)).then_same (by simp)
      · exact .of_same (by simp)
  | spanResetDeassertion =>
    refine ⟨_, rfl, ?_⟩
    split
    · exact (s.enter_changes .spanLine).then_same (by simp)
    · exact .refl s
  | claimLineChange =>
    refine ⟨_, rfl, ?_⟩
    split
    · exact .refl s
    · exact (s.enter_changes .claimLine).then_same (by simp)
  | claimDriveAfterWait =>
    refine ⟨_, rfl, ?_⟩
    split
    · exact (s.enter_changes .exam).then_same (by simp)
    · exact .refl s
  | mapUpset => exact ⟨_, rfl, (s.enter_changes .between).then_same (by simp)⟩
  | tickBoundary =>
    refine ⟨_, rfl, ?_⟩
    split
    · exact (s.enter_changes .timers).trans (State.finishTimers_changes _)
    · exact .refl s
  | sendTurn => exact ⟨_, rfl, (s.enter_changes .between).trans (State.sendTurn_changes _)⟩
  | inboundMemoryRequest p => exact ⟨_, rfl, State.packetEvent_changes (State.receiveMemory_changes p) s⟩
  | beat p => exact ⟨_, rfl, State.packetEvent_changes (State.receiveBeat_changes p) s⟩
  | inboundNotice | inboundRecall | inboundFaultReport =>
    exact ⟨_, rfl, State.packetEvent_changes (fun _ => .of_same (by simp)) s⟩
  | sendPointReceipt r =>
    refine ⟨_, rfl, ?_⟩
    split
    next p _ => exact State.packetEvent_changes (State.sendPointReceipt_changes p r) s
    · exact .refl s
  | reportQueueReceipt r =>
    refine ⟨_, rfl, ?_⟩
    split
    next e _ => exact State.packetEvent_changes (State.reportReceipt_changes e r) s
    · exact .refl s
  | beatReceipt r =>
    refine ⟨_, rfl, ?_⟩
    split
    next b _ => exact State.packetEvent_changes (State.beatReceipt_changes b r) s
    · exact .refl s
  | abandonedOfferReceipt r =>
    refine ⟨_, rfl, ?_⟩
    split
    · exact State.packetEvent_changes (State.abandonedReceipt_changes r) s
    · exact .refl s
  | orphanedReceipt =>
    refine ⟨_, rfl, ?_⟩
    split
    · exact State.packetEvent_changes (fun _ => .of_same (by simp)) s
    · exact .refl s
  | responseTimerExpiry | sendPointRetryExpiry | lockFetchRetryExpiry | reportRetryExpiry | beatRetryExpiry
  | exchangeFetchRetryExpiry | nodeHoldExpiry | hostHoldExpiry | claimTimerExpiry | quarantineExpiry =>
    exact ⟨_, rfl, State.expiryEvent_changes _ s⟩
  | headToSendPoint | localRequestGrant | exchangeLockAttempt | inboundReadGrant | inboundWriteGrant
  | inboundLockReadGrant | inboundUnlockWriteGrant | stagedRequestEntry | waitingLockRequestPlacement =>
    exact ⟨_, rfl, State.passEvent_changes _ s⟩

/-- A step is such a chain too, of its command or of the end of the processing step on an empty queue. -/
theorem step_changes {s t : State} (h : step s = .next t) : s.Changes t := by
  unfold step at h
  split at h
  · obtain rfl := Host.Outcome.next.inj h
    exact s.enter_changes .between
  next c rest _ =>
    obtain ⟨u, hu, hchanges⟩ := exec_changes c (s.withPending rest)
    obtain rfl := Host.Outcome.next.inj (hu.symm.trans h)
    exact hchanges.after_same ⟨rfl, rfl, rfl, rfl, rfl, rfl⟩

/-! ### The invariants (R77, R90, R105, R112, R114, R121) -/

/-- A queue within its bounds holds at most 12 requests (R77). -/
theorem Engine.queueSound.length_le {e : Engine} (h : e.queueSound) : e.queue.length ≤ 12 := by
  obtain ⟨-, hbound, htails⟩ := h
  have hlen := List.length_eq_countP_add_countP QueueEntry.front (l := e.queue)
  have hfronts : e.queue.countP QueueEntry.front ≤ 4 := (Nat.le_add_right _ _).trans hbound
  have htails' : e.queue.countP (fun q => decide ¬q.front = true) ≤ 8 := by simpa using htails
  omega

/-- Settles O57: every change that a step can make keeps the order and bounds of the queue. -/
theorem everyStepKeepsTheQueueBounds : Obligations.EveryStepKeepsTheQueueBounds := by
  intro s t hs hstep
  have ht : t.engine.queueSound :=
    (step_changes hstep).induct (P := fun s => s.engine.queueSound) (fun _ _ hchange => hchange.queueSound) hs
  exact ⟨ht, ht.length_le⟩

/-- Settles O58: every change that a step can make keeps memory, the arbiter's count and the tables in their bounds. -/
theorem everyStepKeepsMemoryAndTables : Obligations.EveryStepKeepsMemoryAndTables := by
  intro s t hxmm htable hbounds hstep
  exact (step_changes hstep).induct (P := State.tablesSound) (fun _ _ hchange => hchange.tablesSound)
    ⟨hxmm, htable, hbounds⟩

end Sys2Proof.Machine
end

section
/-! PROOF. Expiries of response, quarantine, hold and claim timers (R86, R87, R90, R103, R108, R110). -/

namespace Sys2Proof.Machine

/-! ### Timers of tags (R86, R87) -/

/-- A READ that may be re-sent goes to the front of the queue with its reread mark (R86). -/
theorem State.expireResponse_reread (s : State) (t : Tag) (b : BusyTag) (hb : s.tag t = .busy b)
    (hread : b.mayReread = true) :
    s.expireResponse t =
      (s.quarantine t).enqueueFront { QueueEntry.atFront b.req with rereadMark := true } := by
  simp only [State.expireResponse, hb, hread, if_true]

/-- An abandoned LOCK-READ leaves its tag without a fault (R86, R94). -/
theorem State.expireResponse_abandoned (s : State) (t : Tag) (b : BusyTag) (hb : s.tag t = .busy b)
    (hread : b.mayReread = false) (habort : b.abortRelease = true) : s.expireResponse t = s.quarantine t := by
  simp only [State.expireResponse, hb, hread, habort, Bool.false_eq_true, if_false, if_true]

/-- Any other transaction fails with RESPONSE_TIMEOUT (R86). -/
theorem State.expireResponse_fails (s : State) (t : Tag) (b : BusyTag) (hb : s.tag t = .busy b)
    (hread : b.mayReread = false) (habort : b.abortRelease = false) :
    s.expireResponse t = s.failTag t b .responseTimeout := by
  simp only [State.expireResponse, hb, hread, habort, Bool.false_eq_true, if_false]

/-- Only a READ may be re-sent (R86). -/
theorem BusyTag.mayReread_false (b : BusyTag) (h : b.req.kind ≠ .read) : b.mayReread = false := by
  simp [BusyTag.mayReread, h]

/-- Settles O48: the three outcomes of a response timer, and the end of a quarantine. -/
theorem tagTimersExpire : Obligations.TagTimersExpire := by
  intro s e t he hr
  refine ⟨fun hn => congrArg _ (State.expiryEvent_next s e _ he hr hn), ?_⟩
  rintro b q hn hb rfl
  have hrow : exec (.responseTimerExpiry t) s = .next (e.expireResponse t) :=
    congrArg _ (State.expiryEvent_next s e _ he hr hn)
  rw [hrow]
  refine ⟨fun hk hreread hused => ?_, fun ho hk habort => ?_, fun hk habort => ?_⟩
  · rw [e.expireResponse_reread t b hb (by simp [BusyTag.mayReread, hk, hreread, hused])]
    rfl
  · rw [e.expireResponse_fails t b hb (b.mayReread_false (by simp [hk])) habort, State.failTag_hostWrite _ _ _ _ ho]
    rfl
  · rw [e.expireResponse_abandoned t b hb (b.mayReread_false (by simp [hk])) habort]
    rfl

/-! ### Hold timers and the claim timer (R90, R103, R108, R110) -/

/-- A node's entry leaves the table with LOCK_EXPIRED, and its report is filed (R90, R108). -/
theorem State.expireNodeLock_node (s : State) (i : DwIndex) (n : Node) (t : Tag) (a : SpanAddr) (hold : Timer)
    (h : findLock i s.ilu.table = some { index := i, owner := .node n t a hold }) :
    s.expireNodeLock i =
      ((s.setTable (dropLock i s.ilu.table)).raise (lockExpired n t a)).fileReport
        { dest := n, faultCode := 0x15#8, address := a } := by
  simp only [State.expireNodeLock, h]
  rfl

/-- The first report of an empty report queue (R90). -/
theorem State.fileReport_first (s : State) (x : ReportEntry) (h : s.engine.reports = []) :
    s.fileReport x =
      { s with engine := { s.engine with reports := if s.reportsOn = true then [x] else [] } } := by
  have hroom : s.engine.reports.length < 2 := by simp [h]
  rw [State.fileReport_eq, if_pos hroom, h]
  cases s.reportsOn with
  | true => rfl
  | false =>
    simp only [if_true, Bool.false_eq_true, if_false]
    rw [← h]

/-- The host's Exchange lock is removed with LOCK_ABANDONED (R103). -/
theorem State.expireHostHold_exchange (s : State) (i : DwIndex) (h : s.ilu.lock.target = some (.exchange i)) :
    s.expireHostHold =
      ((s.raise (s.ilu.lock.fault .lockAbandoned)).setTable (dropHostLock i s.ilu.table)).lockNone := by
  simp only [State.expireHostHold, h]

/-- The host's Span lock is released with LOCK_ABANDONED (R103). -/
theorem State.expireHostHold_span (s : State) (a : SpanAddr) (h : s.ilu.lock.target = some (.span a)) :
    s.expireHostHold = (s.raise (s.ilu.lock.fault .lockAbandoned)).releaseHeld (.span a) := by
  simp only [State.expireHostHold, h]

/-- The release of a held lock enters at the tail, where the queue has room (R77, R101). -/
theorem State.releaseHeld_free (s : State) (target : LockTarget) (h : s.engine.queue.length < 8) :
    s.releaseHeld target =
      (s.trackLock .releasing).queued (s.ilu.lock.releaseRequest target s.sched.serial) := by
  have hfree : (s.trackLock .releasing).freeEntry = true := by simpa [State.freeEntry] using h
  rw [State.releaseHeld, State.placeLock, if_pos hfree]
  rfl

/-- Settles O50: the expiry of each block, and what becomes of the lock or the line there. -/
theorem holdAndClaimTimersExpire : Obligations.HoldAndClaimTimersExpire := by
  intro s e he hr
  refine ⟨fun i n t a hold hn hl hreports => ?_, fun i hn ht => ?_, fun a hn ht hq => ?_, fun hn => ?_⟩
  · refine congrArg _ ((State.expiryEvent_next s e (.nodeHold i) he hr hn).trans ?_)
    rw [State.expire, e.expireNodeLock_node i n t a hold hl]
    exact State.fileReport_first _ _ hreports
  · exact congrArg _ ((State.expiryEvent_next s e .hostHold he hr hn).trans (e.expireHostHold_exchange i ht))
  · refine congrArg _ ((State.expiryEvent_next s e .hostHold he hr hn).trans ?_)
    rw [State.expire, e.expireHostHold_span a ht]
    exact State.releaseHeld_free _ _ hq
  · exact congrArg _ (State.expiryEvent_next s e .claim he hr hn)

end Sys2Proof.Machine
end

section
/-! PROOF. Receipts of the offer of the send point's request (R76, R80 to R83, R102). -/

namespace Sys2Proof.Machine

/-- SEND_POINT_RECEIPT for the offered request (R76). -/
theorem exec_sendPointReceipt (s e : State) (r : Receipt) (sp : SendPoint) (he : e = s.enter .packets)
    (ho : e.engine.outstanding = some .sendPoint) (ha : e.engine.abandoned = false)
    (hsp : e.engine.sendPoint = some sp) :
    exec (.sendPointReceipt r) s = .next (e.sendPointReceipt sp r).logBatch := by
  have hoffered : e.offeredRequest = some sp := by rw [State.offeredRequest, if_pos ⟨ho, ha⟩, hsp]
  subst he
  show execSendPointReceipt r s = _
  simp only [execSendPointReceipt, hoffered]
  rfl

/-- The state in which an offer is answered, the send point empty and a tag FREE. -/
def State.settled (t : Tag) (s : State) : State :=
  { s with engine := { s.engine with outstanding := none, sendPoint := none, tags := s.engine.tags.set t.val .free } }

/-- The state in which an offer is answered and the send point's request waits for a tick boundary (R82). -/
def State.waits (sp : SendPoint) (s : State) : State :=
  { s with engine := { s.engine with
      outstanding := none, sendPoint := some { sp with offer := .waiting, refused := true } } }

/-- A posted request of a writing kind expects no beat (R80). -/
theorem Request.posted_write (r : Request) (hk : r.kind = .write ∨ r.kind = .unlockWrite) (hc : r.confirm = false) :
    r.posted = true := by
  rcases hk with hk | hk <;> simp [Request.posted, Request.expectedBeats, hk, hc]

/-- A READ expects beats (R63, R84). -/
theorem Request.posted_read (r : Request) (hk : r.kind = .read) (hw : 0 < r.words) : r.posted = false := by
  have hbeats : readBeats r.words ≠ 0 := by
    unfold readBeats
    omega
  simpa [Request.posted, Request.expectedBeats, hk] using hbeats

/-- TAKEN completes a posted request, with RECOVERED after refusals (R80, R81). -/
theorem State.sendPointReceipt_taken_posted (s : State) (sp : SendPoint) (t : Tag) (ht : sp.tag = some t)
    (hp : sp.req.posted = true) :
    s.sendPointReceipt sp .taken =
      (if sp.refused = true then (s.settled t).raise (sp.req.fault .recovered (some t)) else s.settled t).deliverDone
        sp.req .good [] := by
  simp only [State.sendPointReceipt, State.sendPointTaken, hp, if_true, ht, State.setTag?, State.raiseRecovered]
  split <;> rfl

/-- The failure of the send point's request frees its tag and is delivered (R83). -/
theorem State.failSendPoint_settled (s : State) (sp : SendPoint) (t : Tag) (c : FaultCode) (ht : sp.tag = some t) :
    (s.setOutstanding none).failSendPoint sp c =
      ((s.settled t).raise (sp.req.fault c (some t))).deliverFailed sp.req := by
  simp only [State.failSendPoint, ht, State.setTag?]
  rfl

/-- CHECK and FULL count a retry; the request then fails if its window's expiry is recorded, and else waits (R82). -/
theorem State.sendPointReceipt_refused (s : State) (sp : SendPoint) (t : Tag) (r : Receipt) (ht : sp.tag = some t)
    (hr : r = .check ∨ r = .full) :
    s.sendPointReceipt sp r =
      if sp.window.expired = true then
        ((s.countRetry.settled t).raise (sp.req.fault .retryExhausted (some t))).deliverFailed sp.req
      else s.countRetry.waits sp := by
  have hrefused : s.sendPointReceipt sp r = (s.setOutstanding none).sendPointRefused sp := by
    rcases hr with rfl | rfl <;> rfl
  rw [hrefused, State.sendPointRefused]
  split
  · exact State.failSendPoint_settled s.countRetry sp t _ ht
  · rfl

/-- A 16-bit counter stays at 65535 (R82). -/
theorem saturate_word (x : BitVec 16) : saturate x = if x = 65535#16 then 65535#16 else x + 1 := by
  have hmax : BitVec.allOnes 16 = 65535#16 := rfl
  unfold saturate
  rw [hmax]
  split
  next h => exact h
  · rfl

/-- The completion of a host write is delivered to no block (R89). -/
theorem State.deliverDone_hostWrite (r : Request) (status : DataStatus) (data : List Byte) (s : State)
    (ho : r.origin = .hostWrite) : s.deliverDone r status data = s := by
  simp only [State.deliverDone, ho]

/-- The failure of a host write is delivered to no block (R89). -/
theorem State.deliverFailed_hostWrite (r : Request) (s : State) (ho : r.origin = .hostWrite) :
    s.deliverFailed r = s := by
  simp only [State.deliverFailed, ho]

/-- The state in which the host lock is NONE (R95). -/
def State.unlocked (s : State) : State :=
  { s with ilu := { s.ilu with
      lock := { s.ilu.lock with state := .none, target := none, current := none, hold := none } } }

/-- The failure of the store or release that the Interlock Unit tracks makes the host lock NONE (R89, R102). -/
theorem State.deliverFailed_unlock (r : Request) (s : State) (ho : r.origin = .lockStore ∨ r.origin = .lockRelease)
    (hc : s.ilu.lock.current = some r.serial) : s.deliverFailed r = s.unlocked := by
  have hended : s.deliverFailed r = s.unlockEnded r.serial := by
    rcases ho with ho | ho <;> simp only [State.deliverFailed, ho]
  rw [hended, State.unlockEnded_eq, if_pos hc]
  rfl

/-- The completion of the store or release that the Interlock Unit tracks makes the host lock NONE (R89, R102). -/
theorem State.deliverDone_unlocked (r : Request) (status : DataStatus) (data : List Byte) (s : State)
    (ho : r.origin = .lockStore ∨ r.origin = .lockRelease) (hc : s.ilu.lock.current = some r.serial) :
    s.deliverDone r status data = s.unlocked := by
  rw [State.deliverDone_unlock r status data s ho, State.unlockEnded_eq, if_pos hc]
  rfl

/-- TAKEN lets the tag of a READ await its beats, with its response timer started (R80, R86). -/
theorem State.sendPointReceipt_taken_read (s : State) (sp : SendPoint) (t : Tag) (b : BusyTag)
    (hp : sp.req.posted = false) (hrefused : sp.refused = false) (ht : sp.tag = some t) (hb : s.tag t = .busy b)
    (ho : b.req.origin ≠ .lockFetch) :
    s.sendPointReceipt sp .taken =
      { s with engine := { s.engine with
          outstanding := none, sendPoint := none
          tags := s.engine.tags.set t.val
            (.busy { b with
              awaiting := true, response := some (s.startTimer s.responseLimit), window := .fresh }) } } := by
  have htag : ((s.setOutstanding none).setSendPoint none).tag t = .busy b := hb
  simp only [State.sendPointReceipt, State.sendPointTaken, State.raiseRecovered, hrefused, hp, ht, htag,
    Bool.false_eq_true, if_false, BusyTag.await, if_neg ho]
  rfl

/-- Settles O46: each receipt by what it does to the send point, and the block that the outcome is delivered to. -/
theorem receiptsSettleTheSendPoint : Obligations.ReceiptsSettleTheSendPoint := by
  refine ⟨?_, ?_, ?_⟩
  · intro s e sp t a fault retries r he hr hraised ho ha hsp hk horigin hc hdest ht hfault hretries
    have hf : ∀ c, sp.req.fault c (some t) = fault c := fun c => by
      rw [hfault]
      simp [Request.fault, Request.tagged, hk, hdest, Dest.address?]
    rw [← saturate_word] at hretries
    subst hretries
    rw [exec_sendPointReceipt s e r sp he ho ha hsp]
    cases r with
    | taken =>
      rw [e.sendPointReceipt_taken_posted sp t ht (sp.req.posted_write (.inl hk) hc),
        State.deliverDone_hostWrite _ _ _ _ horigin, hf]
      cases sp.refused with
      | true => exact congrArg _ (State.logBatch_raise (e.settled t) _ hr hraised)
      | false => exact congrArg _ (State.logBatch_nothing (e.settled t) hraised)
    | check | full =>
      rw [e.sendPointReceipt_refused sp t _ ht (by simp), State.deliverFailed_hostWrite _ _ horigin, hf]
      cases sp.window.expired with
      | true => exact congrArg _ (State.logBatch_raise (e.countRetry.settled t) _ hr hraised)
      | false => exact congrArg _ (State.logBatch_nothing (e.countRetry.waits sp) hraised)
    | denied | void =>
      simp only [State.sendPointReceipt]
      rw [e.failSendPoint_settled sp t _ ht, State.deliverFailed_hostWrite _ _ horigin, hf]
      exact congrArg _ (State.logBatch_raise (e.settled t) _ hr hraised)
  · intro s e sp t r retries ended he hr hraised ho ha hsp hk horigin hc ht hrefused hcur hretries hended
    rw [← saturate_word] at hretries
    subst hretries hended
    rw [exec_sendPointReceipt s e r sp he ho ha hsp]
    cases r with
    | taken =>
      rw [e.sendPointReceipt_taken_posted sp t ht (sp.req.posted_write (.inr hk) hc), if_neg (by simp [hrefused]),
        State.deliverDone_unlocked _ _ _ (e.settled t) horigin hcur]
      exact congrArg _ (State.logBatch_nothing (e.settled t).unlocked hraised)
    | check | full =>
      rw [e.sendPointReceipt_refused sp t _ ht (by simp),
        State.deliverFailed_unlock _ ((e.countRetry.settled t).raise _) horigin hcur]
      cases sp.window.expired with
      | true => exact congrArg _ (State.logBatch_raise (e.countRetry.settled t).unlocked _ hr hraised)
      | false => exact congrArg _ (State.logBatch_nothing (e.countRetry.waits sp) hraised)
    | denied | void =>
      simp only [State.sendPointReceipt]
      rw [e.failSendPoint_settled sp t _ ht, State.deliverFailed_unlock _ ((e.settled t).raise _) horigin hcur]
      exact congrArg _ (State.logBatch_raise (e.settled t).unlocked _ hr hraised)
  · intro s e sp t b he hr hraised ho ha hsp hk horigin hw hrefused ht hb hreq
    rw [exec_sendPointReceipt s e _ sp he ho ha hsp, e.sendPointReceipt_taken_read sp t b
      (sp.req.posted_read hk hw) hrefused ht hb (by simp [hreq, horigin])]
    exact congrArg _ (State.logBatch_nothing _ hraised)

end Sys2Proof.Machine
end

section
/-! PROOF. HELD beats for the current lock fetch, and the assertion test of CLAIM (R88, R98, R109). -/

namespace Sys2Proof.Machine

/-- The count limit is the high half of the CLAIM setting's low byte, where 0 counts as 1 (R109, R151). -/
theorem State.countLimit_eq (s : State) :
    s.countLimit = if (s.setting 4).toNat / 16 % 16 = 0 then 1 else (s.setting 4).toNat / 16 % 16 := by
  have hnat : s.claimLimit.toNat = (s.setting 4).toNat / 16 % 16 := by
    rw [State.claimLimit, BitVec.extractLsb'_toNat, Nat.shiftRight_eq_div_pow]
  have hzero : s.claimLimit = 0 ↔ (s.setting 4).toNat / 16 % 16 = 0 := by
    rw [← hnat]
    exact BitVec.toNat_inj.symm
  rw [State.countLimit, hnat]
  simp only [hzero]

/-- The CLAIM state that the assertion test leaves (R109). -/
def State.testedClaim (s : State) : Claim :=
  if (s.setting 4).getLsbD 0 = true ∧ s.countLimit ≤ s.ilu.claim.heldCount.toNat ∧ s.ilu.claim.driving = false ∧
      s.ilu.claim.waiting = false ∧ s.ilu.claim.used = false then
    if s.pins.claimOthers = true then { s.ilu.claim with waiting := true }
    else
      { s.ilu.claim with driving := true, used := true, waiting := false
                         timer := some (s.startTimer s.claimTime) }
  else s.ilu.claim

/-- The assertion test changes the CLAIM state alone (R109). -/
theorem State.assertionTest_eq (s : State) :
    s.assertionTest = { s with ilu := { s.ilu with claim := s.testedClaim } } := by
  have hpasses : s.assertionPasses = true ↔
      (s.setting 4).getLsbD 0 = true ∧ s.countLimit ≤ s.ilu.claim.heldCount.toNat ∧ s.ilu.claim.driving = false ∧
        s.ilu.claim.waiting = false ∧ s.ilu.claim.used = false := by
    simp [State.assertionPasses, State.claimAssert, and_assoc]
  unfold State.assertionTest State.testedClaim
  simp only [hpasses]
  split
  next h =>
    obtain ⟨-, -, hdriving, -⟩ := h
    have hline : s.claimLine = s.pins.claimOthers := by simp [State.claimLine, hdriving]
    rw [hline]
    split <;> rfl
  · rfl

/-- The state with another HELD count (R109). -/
def State.heldCounted (count : BitVec 8) (s : State) : State :=
  { s with ilu := { s.ilu with claim := { s.ilu.claim with heldCount := count } } }

/-- The state in which a HELD beat has freed its tag, has been counted and has been tested for (R88, R98, R109). -/
def State.heldAt (t : Tag) (count : BitVec 8) (s : State) : State :=
  { s.setTag t .free with ilu := { s.ilu with claim := (s.heldCounted count).testedClaim } }

/-- A HELD beat for the current fetch raises the HELD count and makes the assertion test (R98, R109). -/
theorem State.countHeld_current (s : State) (t : Tag) (serial : Nat) (count : BitVec 8)
    (hs : s.ilu.lock.state = .fetching) (hc : s.ilu.lock.current = some serial)
    (hcount : count = if s.ilu.claim.heldCount = 255#8 then 255#8 else s.ilu.claim.heldCount + 1) :
    (s.setTag t .free).countHeld serial = s.heldAt t count := by
  rw [← saturate_byte] at hcount
  subst hcount
  have hcurrent : (s.setTag t .free).ilu.lock.state = .fetching ∧ (s.setTag t .free).ilu.lock.current = some serial :=
    ⟨hs, hc⟩
  rw [State.countHeld, if_pos hcurrent, State.assertionTest_eq]
  rfl

/-- The one beat that a LOCK-READ awaits, where it is HELD (R85, R88). -/
theorem State.scoreBeat_held (s : State) (p : Beat) (b : BusyTag) (hb : s.tag p.tag = .busy b)
    (ha : b.awaiting = true) (hx : b.expected = 1) (hrec : b.received = []) (hn : p.number = 0)
    (hs : p.status = .held) (hk : b.req.kind = .lockRead) : s.scoreBeat p = s.heldBeat p.tag b := by
  simp [State.scoreBeat, hb, ha, hx, hrec, hn, hs, hk]

/-- The failure of a lock fetch is delivered to the Interlock Unit (R89). -/
theorem State.deliverFailed_lockFetch (r : Request) (s : State) (ho : r.origin = .lockFetch) :
    s.deliverFailed r = s.lockFetchFailed r.serial := by
  simp only [State.deliverFailed, ho]

/-- Settles O45: the CLAIM state by the assertion test, and the fetch by what its retry window has recorded. -/
theorem heldBeatsReofferTheFetch : Obligations.HeldBeatsReofferTheFetch := by
  intro s e p b count limit c he hr hraised hreset hvalue hn hnode hs hb ha hx hrec hab hk ho hfetching hcur hcount
    hlimit hclaim
  rw [← State.countLimit_eq] at hlimit
  subst hlimit
  obtain rfl : c = (e.heldCounted count).testedClaim := hclaim
  have hcounted := e.countHeld_current p.beat.tag b.req.serial count hfetching hcur hcount
  rw [exec_beat_scored s e p he hr hreset hvalue (by omega) hnode,
    e.scoreBeat_held p.beat b hb ha hx hrec hn hs hk, State.heldBeat, if_neg (by simp [hab]), hcounted]
  refine ⟨fun hw => ?_, fun hw => ?_⟩
  · rw [if_neg (by simp [hw])]
    exact congrArg _ (congrArg _ (State.logBatch_nothing _ hraised))
  · rw [if_pos hw, State.deliverFailed_lockFetch _ _ ho,
      State.lockFetchFailed_current _ ((e.heldAt p.beat.tag count).raise _) hfetching hcur]
    exact congrArg _ (congrArg _ (State.logBatch_raise
      ((e.heldAt p.beat.tag count).lockNone.releaseClaim) (b.req.fault .retryExhausted (some p.beat.tag)) hr hraised))

end Sys2Proof.Machine
end

section
/-! PROOF. ABORT: what it discards, its treatment of tags, and the release of the host lock (R92 to R94, R104). -/

namespace Sys2Proof.Machine

/-! ### Tags at ABORT (R93, R94) -/

/-- The release that ABORT forms enters the queue and changes no tag (R104). -/
theorem State.abandonRelease_tags (b : Bool) (s : State) :
    (s.abandonRelease b).engine.tags = s.engine.tags := by
  unfold State.abandonRelease
  split <;> rfl

/-- After ABORT each tag is as R93 treats it. -/
theorem State.abort_tag (s : State) (t : Tag) : s.abort.tag t = s.abortTag t := by
  have htags : s.abort.engine.tags = Vector.ofFn fun u => s.abortTag u := by
    unfold State.abort
    simp only [State.releaseClaim_keeps, State.lockNone_keeps, State.dropKept_keeps, State.abandonRelease_tags]
    split <;> rfl
  rw [State.tag, htags]
  simp [Vector.get_eq_getElem]

/-- A BUSY tag that awaits beats, where the send point holds no abort release (R93). -/
theorem State.abortTag_awaiting (s : State) (t : Tag) (b : BusyTag) (hb : s.tag t = .busy b)
    (ha : b.awaiting = true) (hp : s.engine.sendPoint = none) :
    s.abortTag t =
      if b.req.kind = .lockRead then .busy { b with abortRelease := true, window := .fresh }
      else .quarantine s.startQuarantine := by
  have hspared : s.spared t = false := by simp [State.spared, hp]
  simp only [State.abortTag, hb, hspared, ha, Bool.false_eq_true, if_false, if_true]

/-- ABORT at a ready bridge (R5, R92). -/
theorem exec_abort_ready (s e : State) (he : e = s.atHost) (h : e.readyForCommand) :
    exec .abort s = .next e.started.abort.logBatch :=
  congrArg _ (State.command_ready s e .abort (by decide) he h rfl)

/-- The grant to an abandoned LOCK-READ makes a release at the front of the queue (R94). -/
theorem State.completeTag_abandoned (s : State) (t : Tag) (b : BusyTag) (h : b.abortRelease = true) :
    s.completeTag t b =
      ((s.setTag t .free).takeSerial).enqueueFront (.atFront (b.req.abortReleaseOf s.sched.serial)) := by
  rw [State.completeTag, if_pos h]

/-- Settles O32: the tag after ABORT, and what becomes of the flag it sets there. -/
theorem abortTreatsAwaitingTags : Obligations.AbortTreatsAwaitingTags := by
  constructor
  · intro s e t b he h hb ha hp
    refine ⟨_, exec_abort_ready s e he h, ?_⟩
    have htag : e.started.abort.logBatch.tag t = e.started.abort.tag t := by simp [State.tag]
    rw [htag, State.abort_tag, e.started.abortTag_awaiting t b hb ha hp]
    rfl
  · intro s e p b he hr hraised hreset hvalue hn hnode hs hb ha habort hk hx hrec _
    have hrecorded : (b.record p.beat).abortRelease = true := habort
    rw [exec_beat_scored s e p he hr hreset hvalue (by omega) hnode,
      e.scoreBeat_completes p.beat b hb ha hx hrec hn hs, e.completeTag_abandoned _ _ hrecorded]
    exact congrArg _ (congrArg _ (State.logBatch_nothing _ hraised))

/-! ### ABORT in WRITE STREAM (R5, R10, R92, R104) -/

/-- The state after ABORT's prelude in WRITE STREAM: it seals nothing, and the stream ends (R5). -/
def State.streamEnded (e : State) : State :=
  { e.touched with host := { e.touched.host with idleLatch := false, decoder := .idle } }

/-- ABORT is not discarded under BUSY, and without a collection BUSY makes no difference (R10). -/
theorem State.writeCommand_abort (e : State) (hr : e.running = true) (hc : e.host.collected = none) :
    e.writeCommand Command.abort.byte = e.commandByte Command.abort.byte := by
  have hlapse : e.setHost e.host.lapse = e := by
    have hsame : e.host.lapse = e.host := by
      rw [HostPort.lapse, hc, Option.map_none, ← hc]
    rw [hsame]
    rfl
  have hopen : e.host.collecting = false := by simp [HostPort.collecting, hc]
  have hescapes : escapesBusy Command.abort.byte = true := by decide
  simp [State.writeCommand, hr, hescapes, hlapse, hopen]

/-- ABORT in WRITE STREAM, with a collection neither open nor lapsed. -/
theorem exec_abort_writeStream (s e : State) (he : e = s.atHost) (hr : e.running = true)
    (ha : e.power.asleep = false) (hd : e.host.decoder = .writeStream) (hc : e.host.collected = none) :
    exec .abort s = .next e.streamEnded.abort.logBatch := by
  have hprelude : ((e.select true).setHalf false).commandPrelude true = e.streamEnded := by
    simp [State.commandPrelude, State.endStream, State.cancelCollection, State.clearLatch, State.setDecoder,
      State.setHost, State.setHalf, State.select, State.streamEnded, State.touched, hd, hc]
  have hbyte : (e.select true).commandByte Command.abort.byte = e.streamEnded.abort := by
    simp [State.commandByte, ha, hprelude, State.decode, Command.owed, State.execute]
  show Host.Outcome.next (s.hostCycle (State.writeCommand Command.abort.byte)) = _
  rw [State.hostCycle_at s e _ he, State.writeCommand_abort (e.select true) hr hc, hbyte]

/-- A tag that neither awaits beats nor has an offer outstanding goes FREE, unless the send point holds an abort release
(R93). -/
theorem State.abortTag_offering (s : State) (t : Tag) (b : BusyTag) (sp : SendPoint) (hb : s.tag t = .busy b)
    (ha : b.awaiting = false) (hp : s.engine.sendPoint = some sp) (hr : sp.req.abortRelease = false)
    (ho : s.engine.outstanding = none) : s.abortTag t = .free := by
  have hspared : s.spared t = false := by simp [State.spared, hp, hr]
  have hoffered : s.sendPointOffered = false := by simp [State.sendPointOffered, ho]
  simp only [State.abortTag, hb, hspared, ha, hoffered, Bool.false_eq_true, if_false]

/-- A FREE tag stays FREE (R93). -/
theorem State.abortTag_free (s : State) (t : Tag) (h : s.tag t = .free) : s.abortTag t = .free := by
  simp only [State.abortTag, h]

/-- What ABORT discards where the send point holds a request without an offer outstanding, and every tag goes FREE: no
offer is abandoned (R92, R93). -/
theorem State.abortDiscard_unoffered (s : State) (sp : SendPoint) (hp : s.engine.sendPoint = some sp)
    (hr : sp.req.abortRelease = false) (ho : s.engine.outstanding = none) (ha : s.engine.abandoned = false)
    (ht : ∀ t, s.abortTag t = .free) :
    s.abortDiscard =
      { s with
        streams := { pack := none, staging := none, deferred := none, current := .empty, ahead := .empty }
        ilu := { s.ilu with waiting := none }
        engine := { s.engine with
          queue := s.engine.queue.filter QueueEntry.survivesAbort
          sendPoint := none, abandonedTag := none, tags := Vector.replicate 4 .free } } := by
  have hnone : s.abandonsOffer = false := by simp [State.abandonsOffer, State.sendPointOffered, ho, ha]
  have htags : (Vector.ofFn fun t : Tag => s.abortTag t) = Vector.replicate 4 .free := by
    ext i hi
    simp [ht]
  have hpoint : (s.engine.sendPoint.filter fun sp => sp.req.abortRelease) = none := by simp [hp, hr]
  simp only [State.abortDiscard, hnone, htags, hpoint, ha, Bool.false_eq_true, if_false]

/-- The release of a held lock enters at the tail (R104). -/
theorem State.abandonRelease_held (s : State) (target : LockTarget) (h : s.ilu.lock.target = some target) :
    s.abandonRelease true = s.takeSerial.enqueue (s.ilu.lock.releaseRequest target s.sched.serial) := by
  simp only [State.abandonRelease, h]

/-- The state in which ABORT has discarded what it discards, a release stands at the tail and the host lock is NONE
(R92, R104). -/
def State.abortedWith (release : Request) (s : State) : State :=
  (s.abortDiscard.takeSerial.enqueue release).dropKept.lockNone.releaseClaim.setHost
    { s.host with drainPending := false, decoder := .idle }

/-- ABORT with a pack open, no collection and the host lock HELD (R92, R104). -/
theorem State.abort_held (s : State) (p : Pack) (target : LockTarget) (hp : s.streams.pack = some p)
    (hc : s.host.collected = none) (hs : s.ilu.lock.state = .held) (ht : s.ilu.lock.target = some target) :
    s.abort =
      State.raise (bareFault .aborted .outbound)
        (s.abortedWith (s.ilu.lock.releaseRequest target s.sched.serial)) := by
  have hdiscards : s.abortDiscards = true := by simp [State.abortDiscards, hp]
  have hreleases : s.abandonReleases = true := by simp [State.abandonReleases, hs]
  have hrelease := State.abandonRelease_held (s.abortDiscard.raise (bareFault .aborted .outbound)) target ht
  have hhost : ({ s.host with drainPending := false, decoder := .idle, collected := none } : HostPort) =
      { s.host with drainPending := false, decoder := .idle } := by rw [← hc]
  rw [State.abort, if_pos hdiscards, hreleases, hrelease, State.abortedWith, ← hhost]
  rfl

/-- Settles O31: the discards, the tag and the release, each by what the bridge holds. -/
theorem abortDiscardsAndReleases : Obligations.AbortDiscardsAndReleases := by
  intro s e p sp t b a he hr hawake hd hcol hraised hpack hheld htarget hpoint hmark hk htag habandoned hout hb hwait
    hfree
  have htags : ∀ u, e.streamEnded.abortTag u = .free := by
    intro u
    by_cases hu : u = t
    · subst hu
      exact e.streamEnded.abortTag_offering u b sp hb hwait hpoint hmark hout
    · exact e.streamEnded.abortTag_free u (hfree u hu)
  have hdiscard := e.streamEnded.abortDiscard_unoffered sp hpoint hmark hout habandoned htags
  rw [exec_abort_writeStream s e he hr hawake hd hcol, e.streamEnded.abort_held p _ hpack hcol hheld htarget,
    State.logBatch_raise (e.streamEnded.abortedWith _) _ hr hraised, State.abortedWith, hdiscard]
  rfl

end Sys2Proof.Machine
end

section
/-! PROOF. STORE UNLOCK and RELEASE LOCK at a ready bridge (R95, R100, R101). -/

namespace Sys2Proof.Machine

/-- A lock request enters at the tail of the queue where it has room (R77, R96). -/
theorem State.placeLock_free (s : State) (r : Request) (h : s.engine.queue.length < 8) : s.placeLock r = s.queued r := by
  have hfree : s.freeEntry = true := by simpa [State.freeEntry] using h
  rw [State.placeLock, if_pos hfree]
  rfl

/-- STORE UNLOCK makes its request the current one of a held lock, in STORING (R100). -/
theorem State.storeUnlock_held (s : State) (enables : Byte) (data : List Byte) (target : LockTarget)
    (hl : s.ilu.lock.state = .held) (ht : s.ilu.lock.target = some target) (hq : s.engine.queue.length < 8) :
    s.storeUnlock enables data =
      (s.trackLock .storing).queued
        (s.ilu.lock.request .lockStore .unlockWrite target (enablesOf enables) data s.sched.serial) := by
  simp only [State.storeUnlock, hl, ht]
  exact State.placeLock_free _ _ hq

/-- RELEASE LOCK makes its release the current request of a held lock, in RELEASING (R101). -/
theorem State.releaseLock_held (s : State) (target : LockTarget) (hl : s.ilu.lock.state = .held)
    (ht : s.ilu.lock.target = some target) (hq : s.engine.queue.length < 8) :
    s.releaseLock = (s.trackLock .releasing).queued (s.ilu.lock.releaseRequest target s.sched.serial) := by
  simp only [State.releaseLock, hl, ht]
  exact s.releaseHeld_free target hq

/-- STORE UNLOCK in a state other than HELD is PROTOCOL (R100). -/
theorem State.storeUnlock_notHeld (s : State) (enables : Byte) (data : List Byte) (h : s.ilu.lock.state ≠ .held) :
    s.storeUnlock enables data = s.raise lockProtocol := by
  unfold State.storeUnlock
  split
  next hl _ => exact absurd hl h
  next => rfl

/-- RELEASE LOCK in a state other than HELD is PROTOCOL (R101). -/
theorem State.releaseLock_notHeld (s : State) (h : s.ilu.lock.state ≠ .held) :
    s.releaseLock = s.raise lockProtocol := by
  unfold State.releaseLock
  split
  next hl _ => exact absurd hl h
  next => rfl

/-- STORE UNLOCK with its enables and 8 data bytes at a ready bridge (R4, R5). -/
theorem exec_storeUnlock_ready (s e : State) (enables : Byte) (data : List Byte) (he : e = s.atHost)
    (h : e.readyForCommand) (hdata : data.length = 8) :
    exec (.storeUnlock (enables :: data)) s = .next (e.started.storeUnlock enables data).logBatch := by
  have howed : Command.storeUnlock.owed e.checkSupply = (enables :: data).length := by
    rw [List.length_cons, hdata]
    rfl
  exact congrArg _ (State.commands_ready s e .storeUnlock _ (by decide) he h howed (by simp))

/-- RELEASE LOCK at a ready bridge (R5). -/
theorem exec_releaseLock_ready (s e : State) (he : e = s.atHost) (h : e.readyForCommand) :
    exec .releaseLock s = .next e.started.releaseLock.logBatch :=
  congrArg _ (State.command_ready s e .releaseLock (by decide) he h rfl)

/-- Settles O18: the state of the lock decides, and the prelude leaves the lock and the queue as they are. -/
theorem heldLocksAreStoredOrReleased : Obligations.HeldLocksAreStoredOrReleased := by
  intro s e enables data he h hdata
  rw [exec_storeUnlock_ready s e enables data he h hdata, exec_releaseLock_ready s e he h]
  constructor
  · intro hl
    rw [e.started.storeUnlock_notHeld enables data hl, e.started.releaseLock_notHeld hl]
    rw [State.logBatch_raise e.started lockProtocol h.runs h.started_raised]
    exact ⟨rfl, rfl⟩
  · intro target r hl ht hq hr
    subst hr
    rw [e.started.storeUnlock_held enables data target hl ht hq, e.started.releaseLock_held target hl ht hq]
    exact ⟨congrArg _ (State.logBatch_nothing _ h.started_raised),
      congrArg _ (State.logBatch_nothing _ h.started_raised)⟩

end Sys2Proof.Machine
end

section
/-! PROOF. The CLAIM line: a change by other nodes, and the examination (R109, R164). -/

namespace Sys2Proof.Machine

/-- The row of the examination drives the line of a running bridge that waits and finds it free (R109). -/
theorem exec_claimDrive_free (s e : State) (he : e = s.enter .exam) (hr : e.running = true)
    (hw : e.ilu.claim.waiting = true) (hf : e.claimLine = false) :
    exec .claimDriveAfterWait s = .next e.driveClaim := by
  subst he
  have hs : s.running = true := by simpa using hr
  exact congrArg _ (if_pos ⟨hs, hw, hf⟩)

/-- Settles O39: a level that differs is recorded, and the line is free where no node drives it. -/
theorem claimIsDrivenAfterTheWait : Obligations.ClaimIsDrivenAfterTheWait := by
  constructor
  · intro s e level he hlevel
    subst he
    exact congrArg _ (if_neg hlevel)
  · intro s e he hr hw hdriving hothers
    have hfree : e.claimLine = false := by simp [State.claimLine, hothers, hdriving]
    exact exec_claimDrive_free s e he hr hw hfree

end Sys2Proof.Machine
end

section
/-! PROOF. The gate and its commands, and the arbiter of Exchange Memory (R115, R117 to R120). -/

namespace Sys2Proof.Machine

/-! ### The bytes of GATE WRITE and GATE READ (R117 to R119) -/

/-- An index byte below 8 names the entry of its number. -/
theorem gateIndex_of_val {b : Byte} {i : Fin 8} (h : b.toNat = i.val) : gateIndex b = some i := by
  have hb : b.toNat < 8 := h ▸ i.isLt
  rw [gateIndex, dif_pos hb]
  exact congrArg some (Fin.ext h)

/-- An index byte from 8 names no entry. -/
theorem gateIndex_of_le {b : Byte} (h : 8 ≤ b.toNat) : gateIndex b = none := dif_neg (Nat.not_lt.mpr h)

/-- The low six bits of a byte are zero where masking with 3Fh leaves nothing. -/
theorem extractLsb'_six_eq_zero_iff (b : Byte) : b.extractLsb' 0 6 = 0#6 ↔ b &&& 0x3F#8 = 0 := by
  have hlow : (b.extractLsb' 0 6).toNat = b.toNat % 64 := by simp
  have hmasked : (b &&& 0x3F#8).toNat = b.toNat % 64 := by
    rw [BitVec.toNat_and]
    exact Nat.and_two_pow_sub_one_eq_mod b.toNat 6
  rw [← BitVec.toNat_inj, ← BitVec.toNat_inj, hlow, hmasked]
  rfl

/-- The control and KINDS bytes that GATE WRITE accepts (R118); KINDS passes the test of the last FRAME byte (R45). -/
theorem gateBytesInRange_iff (control kinds : Byte) :
    gateBytesInRange control kinds = true ↔ control &&& 0x3F#8 = 0 ∧ kinds.toNat < 16 := by
  rw [← extractLsb'_six_eq_zero_iff, ← frameInRange_iff, gateBytesInRange, frameInRange, Bool.and_eq_true, beq_iff_eq]

/-- The entry of GATE WRITE's parameters, its KINDS as the low bits of their byte (R118). -/
theorem GateEntry.ofBytes_eq (control kinds base mask low high : Byte) :
    GateEntry.ofBytes control kinds base mask low high =
      { enabled := control.getLsbD 7, deny := control.getLsbD 6, kinds := kinds.setWidth 4, base := base
        mask := mask, nodes := high ++ low } := by
  rw [GateEntry.ofBytes, BitVec.setWidth_eq_extractLsb' (by decide)]

/-! ### GATE WRITE and GATE READ at a ready bridge -/

/-- GATE WRITE with its seven parameters (R4, R5). -/
theorem exec_gateWrite_ready (s e : State) (index control kinds base mask low high : Byte) (he : e = s.atHost)
    (h : e.readyForCommand) :
    exec (.gateWrite [index, control, kinds, base, mask, low, high]) s =
      .next (e.started.gateWriteCmd index control kinds base mask low high).logBatch := by
  show Host.Outcome.next (s.hostWrites (Command.gateWrite.byte :: [index, control, kinds, base, mask, low, high])) = _
  rw [State.commands_ready s e .gateWrite _ (by decide) he h rfl (by simp)]
  rfl

/-- GATE READ with its parameter (R4, R5). -/
theorem exec_gateRead_ready (s e : State) (index : Byte) (he : e = s.atHost) (h : e.readyForCommand) :
    exec (.gateRead [index]) s = .next (e.started.gateReadCmd index).logBatch :=
  congrArg _ (State.commands_ready s e .gateRead [index] (by decide) he h rfl (by simp))

/-- A ready bridge writes an entry that exists, if its bytes are in range (R118). -/
theorem State.readyForCommand.gateWrite_entry {e : State} (h : e.readyForCommand) {index : Byte} {i : Fin 8}
    (hi : index.toNat = i.val) (control kinds base mask low high : Byte) :
    (e.started.gateWriteCmd index control kinds base mask low high).logBatch =
      if control &&& 0x3F#8 = 0 ∧ kinds.toNat < 16 then
        { e.started with
          gate := e.gate.set i.val
            { enabled := control.getLsbD 7, deny := control.getLsbD 6, kinds := kinds.setWidth 4, base := base
              mask := mask, nodes := high ++ low } }
      else e.started.logged (hostFault .paramRange) := by
  simp only [State.gateWriteCmd, gateIndex_of_val hi, gateBytesInRange_iff, GateEntry.ofBytes_eq]
  split
  · exact State.logBatch_nothing _ h.started_raised
  · exact h.paramRange

/-- A ready bridge reports the bytes of an entry that exists (R119). -/
theorem State.readyForCommand.gateRead_entry {e : State} (h : e.readyForCommand) {index : Byte} {i : Fin 8}
    (hi : index.toNat = i.val) :
    (e.started.gateReadCmd index).logBatch = e.started.reporting (e.gateEntry i).bytes := by
  simp only [State.gateReadCmd, gateIndex_of_val hi]
  exact State.logBatch_nothing _ h.started_raised

/-- GATE WRITE of an entry that does not exist (R7, R118). -/
theorem State.readyForCommand.gateWrite_noEntry {e : State} (h : e.readyForCommand) {index : Byte}
    (hi : 8 ≤ index.toNat) (control kinds base mask low high : Byte) :
    (e.started.gateWriteCmd index control kinds base mask low high).logBatch =
      e.started.logged (hostFault .paramRange) := by
  simp only [State.gateWriteCmd, gateIndex_of_le hi]
  exact h.paramRange

/-- GATE READ of an entry that does not exist (R7, R119). -/
theorem State.readyForCommand.gateRead_noEntry {e : State} (h : e.readyForCommand) {index : Byte}
    (hi : 8 ≤ index.toNat) :
    (e.started.gateReadCmd index).logBatch = e.started.logged (hostFault .paramRange) := by
  simp only [State.gateReadCmd, gateIndex_of_le hi]
  exact h.paramRange

/-! ### The gate decision (R120) -/

/-- The four conditions under which an entry decides a request (R120). -/
theorem GateEntry.decides_iff (g : GateEntry) (k : MemoryKind) (n : Node) (d : DwIndex) :
    g.decides k n d = true ↔ g.enabled = true ∧ (d ^^^ g.base) &&& g.mask = 0 ∧
      g.kinds.getLsbD k.gateBit = true ∧ g.nodes.getLsbD n.toNat = true := by
  simp [GateEntry.decides, GateEntry.covers, and_assoc]

/-- The first entry in index order that decides a request gives the decision (R120). -/
theorem State.gateDecision_first (s : State) (k : MemoryKind) (n : Node) (d : DwIndex) (i : Fin 8)
    (hi : (s.gateEntry i).decides k n d = true) (hbefore : ∀ j, j < i → (s.gateEntry j).decides k n d ≠ true) :
    s.gateDecision k n d = !(s.gateEntry i).deny := by
  have hfirst : (s.gate.toList.find? fun g => g.decides k n d) = some (s.gateEntry i) := by
    refine List.find?_eq_some_iff_getElem.mpr ⟨hi, i.val, by simp, rfl, fun j hj => ?_⟩
    simpa [State.gateEntry, Vector.get_eq_getElem] using hbefore ⟨j, hj.trans i.isLt⟩ hj
  rw [State.gateDecision, hfirst]

/-- GATE DEFAULT gives the decision where no entry decides a request (R120). -/
theorem State.gateDecision_default (s : State) (k : MemoryKind) (n : Node) (d : DwIndex)
    (h : ∀ i, (s.gateEntry i).decides k n d ≠ true) : s.gateDecision k n d = (s.setting 8).getLsbD 0 := by
  have hnone : (s.gate.toList.find? fun g => g.decides k n d) = none := by
    refine List.find?_eq_none.mpr fun g hg => ?_
    obtain ⟨i, hlt, rfl⟩ := List.getElem_of_mem hg
    exact h ⟨i, by simpa using hlt⟩
  rw [State.gateDecision, hnone]
  rfl

/-- Settles O22: an index byte names an entry or none, and the gate's search stops at the first entry that decides. -/
theorem gateIsWrittenReadAndDecides : Obligations.GateIsWrittenReadAndDecides := by
  constructor
  · intro s e index control kinds base mask low high he h
    rw [exec_gateWrite_ready s e index control kinds base mask low high he h, exec_gateRead_ready s e index he h]
    constructor
    · intro i hi
      exact ⟨congrArg _ (h.gateWrite_entry hi control kinds base mask low high), congrArg _ (h.gateRead_entry hi)⟩
    · intro hi
      exact ⟨congrArg _ (h.gateWrite_noEntry hi control kinds base mask low high), congrArg _ (h.gateRead_noEntry hi)⟩
  · intro s k n d hit hhit
    have hdecides : ∀ i, hit i ↔ (s.gateEntry i).decides k n d = true := fun i =>
      (hhit i).trans (GateEntry.decides_iff _ k n d).symm
    simp only [hdecides]
    exact ⟨s.gateDecision_first k n d, s.gateDecision_default k n d⟩

/-! ### The arbiter (R115) -/

/-- Settles O52: the two candidates pick the row of the table, and the count decides between them where both stand. -/
theorem arbiterFollowsItsTable : Obligations.ArbiterFollowsItsTable := by
  intro s
  refine ⟨fun e hin hlocal => ?_, fun e l hin hlocal hrun => ?_, fun e l hin hlocal hrun => ?_,
    fun l hin hlocal => ?_, fun hin hlocal => ?_⟩
  · simp only [State.arbitrate, hin, hlocal]
  · simp only [State.arbitrate, hin, hlocal, if_pos hrun]
  · have hlimit : ¬s.xmm.run < 4 := hrun ▸ Nat.lt_irrefl 4
    simp only [State.arbitrate, hin, hlocal, if_neg hlimit]
  · simp only [State.arbitrate, hin, hlocal]
  · simp only [State.arbitrate, hin, hlocal]

end Sys2Proof.Machine
end

section
/-! PROOF. TAKE NOTICE and REPORT TAKEN at a ready bridge (R130, R131). -/

namespace Sys2Proof.Machine

/-! ### The record that is taken (R130) -/

/-- The higher of a level and the level of a record. -/
def raiseLevel (m : Level) (r : NoticeRecord) : Level := if m ≤ r.level then r.level else m

/-- The highest level present, as a fold of `raiseLevel`. -/
theorem topLevel_eq_foldl (q : List NoticeRecord) : topLevel q = q.foldl raiseLevel 0 := rfl

/-- No bound on both levels is exceeded by the higher one. -/
theorem raiseLevel_le {m top : Level} {r : NoticeRecord} (hm : m ≤ top) (hr : r.level ≤ top) :
    raiseLevel m r ≤ top := by
  unfold raiseLevel
  split
  · exact hr
  · exact hm

/-- A fold of levels none of which exceeds the bound reaches it, if it starts there or a record has that level. -/
theorem foldl_raiseLevel_eq {q : List NoticeRecord} {m top : Level} (hm : m ≤ top) (hq : ∀ r ∈ q, r.level ≤ top)
    (htop : m = top ∨ ∃ r ∈ q, r.level = top) : q.foldl raiseLevel m = top := by
  induction q generalizing m with
  | nil => simpa using htop
  | cons r rest ih =>
    obtain ⟨hr, hrest⟩ := List.forall_mem_cons.mp hq
    have hle : raiseLevel m r ≤ top := raiseLevel_le hm hr
    refine ih hle hrest ?_
    rcases htop with rfl | ⟨x, hx, hlevel⟩
    · exact .inl (by simp only [raiseLevel]; split <;> bv_omega)
    · rcases List.mem_cons.mp hx with rfl | hmem
      · exact .inl (by rw [raiseLevel, if_pos (hlevel ▸ hm), hlevel])
      · exact .inr ⟨x, hmem, hlevel⟩

/-- A record that no other one exceeds has the highest level present. -/
theorem topLevel_eq {q : List NoticeRecord} {r : NoticeRecord} (hmem : r ∈ q) (hq : ∀ x ∈ q, x.level ≤ r.level) :
    topLevel q = r.level :=
  (topLevel_eq_foldl q).trans (foldl_raiseLevel_eq (by bv_omega) hq (.inr ⟨r, hmem, rfl⟩))

/-- TAKE NOTICE moves the record that is higher than every older one, and not exceeded by a newer one, to the taken slot
(R130). -/
theorem Notices.take_highest (n : Notices) {older newer : List NoticeRecord} {r : NoticeRecord}
    (hqueue : n.queue = older ++ r :: newer) (holder : ∀ q ∈ older, q.level < r.level)
    (hnewer : ∀ q ∈ newer, q.level ≤ r.level) :
    n.take = { n with queue := older ++ newer, taken := some r, withdrawn := false } := by
  have htop : topLevel (older ++ r :: newer) = r.level := by
    refine topLevel_eq (by simp) fun x hx => ?_
    rcases List.mem_append.mp hx with hx | hx
    · exact BitVec.le_of_lt (holder x hx)
    · rcases List.mem_cons.mp hx with rfl | hx
      · exact BitVec.le_refl _
      · exact hnewer x hx
  have hskip : ∀ q ∈ older, ¬(q.level == r.level) = true := fun q hq heq =>
    BitVec.lt_irrefl r.level (eq_of_beq heq ▸ holder q hq)
  have hselect : selectNotice n.queue = some r := by
    rw [selectNotice, hqueue, htop, List.find?_append, List.find?_eq_none.mpr hskip, Option.none_or,
      List.find?_cons_of_pos (by simp)]
  have herase : n.queue.eraseP (fun q => q.level == topLevel n.queue) = older ++ newer := by
    rw [hqueue, htop, List.eraseP_append_right _ hskip, List.eraseP_cons_of_pos (by simp)]
  rw [Notices.take, hselect, herase]

/-- TAKE NOTICE on an empty queue empties the taken slot (R130). -/
theorem Notices.take_empty (n : Notices) (hqueue : n.queue = []) :
    n.take = { n with taken := none, withdrawn := false } := by
  simp [Notices.take, selectNotice, hqueue]

/-! ### TAKEN (R131) -/

/-- The bytes of TAKEN for a record, withdrawn or not (R131). -/
def NoticeRecord.takenBytes (withdrawn : Bool) (r : NoticeRecord) : List Byte :=
  [r.body.number ||| bit 7 withdrawn, r.level.setWidth 8, r.source.setWidth 8, r.sequence] ++ r.body.report

/-- TAKEN of a taken record (R131). -/
theorem Notices.takenReport_some {n : Notices} {r : NoticeRecord} (h : n.taken = some r) :
    n.takenReport = r.takenBytes n.withdrawn := by
  rw [Notices.takenReport, h]
  rfl

/-- TAKEN of an empty slot (R131). -/
theorem Notices.takenReport_none {n : Notices} (h : n.taken = none) : n.takenReport = List.replicate 10 0#8 := by
  rw [Notices.takenReport, h]

/-! ### The two commands at a ready bridge -/

/-- TAKE NOTICE at a ready bridge changes the notice state and reports the taken slot (R5, R130). -/
theorem exec_takeNotice_ready (s e : State) (he : e = s.atHost) (h : e.readyForCommand) :
    exec .takeNotice s =
      .next (State.reporting e.notices.take.takenReport { e.started with notices := e.notices.take }) := by
  show Host.Outcome.next (s.hostWrite Command.takeNotice.byte) = _
  rw [State.command_ready s e .takeNotice (by decide) he h rfl]
  exact congrArg _ (State.logBatch_nothing e.started.takeNoticeCmd h.started_raised)

/-- REPORT with its id and selector at a ready bridge (R4, R5, R19). -/
theorem State.hostWrites_report_ready (s e : State) (id selector : Byte) (he : e = s.atHost) (h : e.readyForCommand) :
    s.hostWrites (reportWrites id (some selector)) = (e.started.reportCmd id selector).logBatch :=
  State.commands_ready s e .report [id, selector] (by decide) he h rfl (by simp)

/-- REPORT TAKEN at a ready bridge reports the taken slot (R19, R131). -/
theorem exec_reportTaken_ready (s e : State) (selector : Byte) (he : e = s.atHost) (h : e.readyForCommand) :
    exec (.reportTaken (some selector)) s = .next (e.started.reporting e.notices.takenReport) := by
  show Host.Outcome.next (s.hostWrites (reportWrites 8 (some selector))) = _
  rw [State.hostWrites_report_ready s e 8 selector he h]
  exact congrArg _ (State.logBatch_nothing (e.started.reportCmd 8 selector) h.started_raised)

/-- Settles O27: the queue decides what is taken, and the taken slot what is reported. -/
theorem noticesAreTakenByLevel : Obligations.NoticesAreTakenByLevel := by
  intro s e selector bytes he h hbytes
  have hlayout : ∀ w r, r.takenBytes w = bytes w r := by
    rintro w ⟨body, level, source, sequence⟩
    rw [hbytes]
    cases body with
    | notice code => rfl
    | faultReport fc a => rfl
  rw [exec_takeNotice_ready s e he h, exec_reportTaken_ready s e selector he h]
  refine ⟨fun hqueue => ?_, fun older newer r hqueue holder hnewer => ?_, fun r htaken => ?_, fun htaken => ?_⟩
  · rw [e.notices.take_empty hqueue, Notices.takenReport_none rfl]
  · rw [e.notices.take_highest hqueue holder hnewer, Notices.takenReport_some rfl, hlayout]
  · rw [Notices.takenReport_some htaken, hlayout]
  · rw [Notices.takenReport_none htaken]

end Sys2Proof.Machine
end

section
/-! PROOF. SEND NOTICE and SEND RECALL at a ready bridge (R133). -/

namespace Sys2Proof.Machine

/-- The node and level bytes that SEND NOTICE and SEND RECALL accept, as numbers (R133). -/
theorem sendInRange_iff (node level : Byte) (own : Node) :
    (node < 16 ∧ level < 4 ∧ node ≠ own.setWidth 8) ↔
      node.toNat < 16 ∧ level.toNat < 4 ∧ node.toNat ≠ own.toNat := by
  have hown : (own.setWidth 8).toNat = own.toNat := BitVec.toNat_setWidth_of_le (by decide)
  rw [BitVec.lt_def, BitVec.lt_def, ne_eq, ← BitVec.toNat_inj, hown]
  rfl

/-- A request placed where the queue has room enters at its tail, under a serial number of its own (R77). -/
theorem State.place_numbered (s : State) (r : Request) (hq : s.engine.queue.length < 8) :
    s.takeSerial.place r = s.numbered.queued r :=
  State.place_free r s.takeSerial hq

/-- What SEND NOTICE and SEND RECALL do at a ready bridge whose queue has room (R133). -/
theorem State.readyForCommand.sendCmd {e : State} (h : e.readyForCommand) (hq : e.engine.queue.length < 8)
    (origin : Origin) (kind : Kind) (node level low high : Byte) :
    (e.started.sendCmd origin kind node level low high).logBatch =
      if node.toNat < 16 ∧ level.toNat < 4 ∧ node.toNat ≠ e.power.node.toNat then
        e.started.numbered.queued
          (noticeRequest origin kind (node.setWidth 4) (level.setWidth 2) (high ++ low) e.sched.serial)
      else e.started.logged (hostFault .paramRange) := by
  have hrange := sendInRange_iff node level e.started.power.node
  by_cases hin : node.toNat < 16 ∧ level.toNat < 4 ∧ node.toNat ≠ e.power.node.toNat
  · rw [State.sendCmd, if_pos (hrange.mpr hin), if_pos hin, State.place_numbered e.started _ hq]
    exact State.logBatch_nothing _ h.started_raised
  · rw [State.sendCmd, if_neg (mt hrange.mp hin), if_neg hin, h.paramRange]

/-- SEND NOTICE with its four parameters at a ready bridge (R4, R5). -/
theorem exec_sendNotice_ready (s e : State) (node level low high : Byte) (he : e = s.atHost) (h : e.readyForCommand) :
    exec (.sendNotice [node, level, low, high]) s =
      .next (e.started.sendCmd .noticeSend .notice node level low high).logBatch :=
  congrArg _ (State.commands_ready s e .sendNotice [node, level, low, high] (by decide) he h rfl (by simp))

/-- SEND RECALL with its four parameters at a ready bridge (R4, R5). -/
theorem exec_sendRecall_ready (s e : State) (node level low high : Byte) (he : e = s.atHost) (h : e.readyForCommand) :
    exec (.sendRecall [node, level, low, high]) s =
      .next (e.started.sendCmd .recallSend .recall node level low high).logBatch :=
  congrArg _ (State.commands_ready s e .sendRecall [node, level, low, high] (by decide) he h rfl (by simp))

/-- Settles O28: both commands share one range check and one placement, and differ in origin and kind. -/
theorem noticesAndRecallsAreSent : Obligations.NoticesAndRecallsAreSent := by
  intro s e node level low high r he h hq hr
  subst hr
  rw [exec_sendNotice_ready s e node level low high he h, exec_sendRecall_ready s e node level low high he h]
  exact ⟨congrArg _ (h.sendCmd hq .noticeSend .notice node level low high),
    congrArg _ (h.sendCmd hq .recallSend .recall node level low high)⟩

end Sys2Proof.Machine
end

section
/-! PROOF. FAULT RELEASE, FAULT CLEAR and the FAULT and SUMMARY reports at a ready bridge (R144 to R147). -/

namespace Sys2Proof.Machine

/-! ### FAULT RELEASE and FAULT CLEAR (R144, R145) -/

/-- The codes that FAULT CLEAR removes one at a time, as numbers (R145). -/
theorem faultCodeInRange_iff (code : Byte) :
    (0x01#8 ≤ code ∧ code ≤ 0x1E#8) ↔ 1 ≤ code.toNat ∧ code.toNat ≤ 30 := by
  rw [BitVec.le_def, BitVec.le_def]
  rfl

/-- FAULT RELEASE at a ready bridge, which has no fault of its prelude to log (R4, R144). -/
theorem exec_faultRelease_ready (s e : State) (he : e = s.atHost) (h : e.readyForCommand) :
    exec .faultRelease s = .next { e.started with log := { e.log with capture := none, overflow := false } } := by
  have hexec : exec .faultRelease s = .next e.started.faultReleaseCmd.logBatch :=
    congrArg _ (State.command_ready s e .faultRelease (by decide) he h rfl)
  rw [hexec, State.faultReleaseCmd, State.logBatch_nothing e.started h.started_raised]
  exact congrArg _ (State.logBatch_nothing _ h.started_raised)

/-- FAULT CLEAR with its parameter at a ready bridge (R4, R5). -/
theorem exec_faultClear_ready (s e : State) (code : Byte) (he : e = s.atHost) (h : e.readyForCommand) :
    exec (.faultClear [code]) s = .next (e.started.faultClearCmd code).logBatch :=
  congrArg _ (State.commands_ready s e .faultClear [code] (by decide) he h rfl (by simp))

/-- What FAULT CLEAR does at a ready bridge: it clears every code, clears one, or fails its check (R7, R145). -/
theorem State.readyForCommand.faultClear {e : State} (h : e.readyForCommand) (code : Byte) :
    (e.started.faultClearCmd code).logBatch =
      if code = 0xFF#8 then { e.started with log := { e.log with summary := 0 } }
      else if 1 ≤ code.toNat ∧ code.toNat ≤ 30 then
        { e.started with log := { e.log with summary := e.log.summary &&& ~~~(1#32 <<< code.toNat) } }
      else e.started.logged (hostFault .paramRange) := by
  simp only [State.faultClearCmd, faultCodeInRange_iff, BitVec.twoPow_eq]
  split
  · exact State.logBatch_nothing _ h.started_raised
  · split
    · exact State.logBatch_nothing _ h.started_raised
    · exact h.paramRange

/-- Settles O29: both commands touch the Fault Log alone, and each its own part of it. -/
theorem faultsAreReleasedAndCleared : Obligations.FaultsAreReleasedAndCleared := by
  intro s e code he h
  rw [exec_faultClear_ready s e code he h, h.faultClear code]
  exact ⟨exec_faultRelease_ready s e he h, rfl⟩

/-! ### The FAULT and SUMMARY reports (R146, R147) -/

/-- REPORT at a ready bridge loads the report that its id and selector name (R18, R19). -/
theorem State.hostWrites_report_loads (s e : State) (id selector : Byte) (bytes : List Byte) (he : e = s.atHost)
    (h : e.readyForCommand) (hbytes : e.started.reportFor id selector = some bytes) :
    s.hostWrites (reportWrites id (some selector)) = e.started.reporting bytes := by
  rw [State.hostWrites_report_ready s e id selector he h, State.reportCmd, hbytes]
  exact State.logBatch_nothing _ h.started_raised

/-- REPORT FAULT at a ready bridge reports the capture record (R146). -/
theorem exec_reportFault_ready (s e : State) (selector : Byte) (he : e = s.atHost) (h : e.readyForCommand) :
    exec (.reportFault (some selector)) s = .next (e.started.reporting e.log.faultReport) :=
  congrArg _ (State.hostWrites_report_loads s e 2 selector _ he h rfl)

/-- REPORT SUMMARY at a ready bridge reports the Fault Summary (R147). -/
theorem exec_reportSummary_ready (s e : State) (selector : Byte) (he : e = s.atHost) (h : e.readyForCommand) :
    exec (.reportSummary (some selector)) s = .next (e.started.reporting e.log.summaryReport) :=
  congrArg _ (State.hostWrites_report_loads s e 3 selector _ he h rfl)

/-- The FAULT report of an empty capture record (R146). -/
theorem FaultLog.faultReport_none {l : FaultLog} (h : l.capture = none) :
    l.faultReport = [0x00#8, 0x00#8] ++ List.replicate 11 0xFF#8 := by
  rw [FaultLog.faultReport, h]

/-- The FAULT report of a captured fault (R146). -/
theorem FaultLog.faultReport_some {l : FaultLog} {f : FaultRecord} (h : l.capture = some f) :
    l.faultReport =
      [f.code.byte, f.flagByte l.overflow, f.origin.reportByte, orFF (f.tag.map fun t => countByte t.val),
        orFF (f.kind.map Kind.reportByte), orFF (f.peer.map fun n => n.setWidth 8), orFF f.page, orFF f.offset] ++
        addressField f.address := by
  rw [FaultLog.faultReport, h]

/-- Settles O25: the bytes of the report of a captured fault are compared one by one, each along its own field. -/
theorem faultAndSummaryReports : Obligations.FaultAndSummaryReports := by
  intro s e selector he h
  rw [exec_reportSummary_ready s e selector he h, exec_reportFault_ready s e selector he h]
  refine ⟨rfl, fun hnone => by rw [FaultLog.faultReport_none hnone], ?_⟩
  intro f hf
  rw [FaultLog.faultReport_some hf]
  refine congrArg (fun bytes => Host.Outcome.next (e.started.reporting bytes)) ?_
  simp only [List.cons_append, List.nil_append, List.cons.injEq, true_and]
  refine ⟨rfl, ?origin, ?tag, ?kind, ?peer, rfl, rfl, ?address⟩
  case origin => cases f.origin <;> rfl
  case tag => cases f.tag <;> rfl
  case kind =>
    cases f.kind with
    | none => rfl
    | some k => cases k <;> rfl
  case peer => cases f.peer <;> rfl
  case address => cases f.address <;> rfl

end Sys2Proof.Machine
end

section
/-! PROOF. Batches of faults: their order, and what logging one does to each part of the Fault Log (R140, R141). -/

namespace Sys2Proof.Machine

/-! ### The order of a batch (R141) -/

/-- The rank of a fault compares as the manual orders a batch: hard before soft, then by code (R141). -/
theorem FaultRecord.rank_lt_iff (f g : FaultRecord) :
    f.rank < g.rank ↔
      (f.code.hard = true ∨ g.code.hard = false) ∧ (f.code.hard = g.code.hard → f.code.number < g.code.number) := by
  have hf := f.code.number_bounds
  have hg := g.code.number_bounds
  cases hfh : f.code.hard <;> cases hgh : g.code.hard <;> simp [FaultRecord.rank, hfh, hgh] <;> omega

/-- A fault is inserted in the order of rank. -/
theorem insertFault_eq_orderedInsert (f : FaultRecord) (gs : List FaultRecord) :
    insertFault f gs = gs.orderedInsert (FaultRecord.rank ⁻¹'o (· ≤ ·)) f := by
  induction gs with
  | nil => rfl
  | cons g gs ih => rw [insertFault, List.orderedInsert_cons, ih]; rfl

/-- A batch is put in order by inserting its faults one after another. -/
theorem orderBatch_eq_insertionSort (fs : List FaultRecord) :
    orderBatch fs = fs.insertionSort (FaultRecord.rank ⁻¹'o (· ≤ ·)) :=
  congrArg (fun insert => fs.foldr insert []) (funext₂ insertFault_eq_orderedInsert)

/-- The batch in order has the faults that were raised, each as often. -/
theorem orderBatch_perm (fs : List FaultRecord) : (orderBatch fs).Perm fs := by
  rw [orderBatch_eq_insertionSort]
  exact List.perm_insertionSort _ fs

/-- The batch in order is of ascending rank. -/
theorem orderBatch_pairwise (fs : List FaultRecord) : (orderBatch fs).Pairwise fun f g => f.rank ≤ g.rank := by
  rw [orderBatch_eq_insertionSort]
  exact List.pairwise_insertionSort (FaultRecord.rank ⁻¹'o (· ≤ ·)) fs

/-- The one fault of least rank is the first of its batch. -/
theorem orderBatch_head {fs : List FaultRecord} {f : FaultRecord} (hf : f ∈ fs)
    (hleast : ∀ g ∈ fs, f.rank < g.rank ∨ g = f) : ∃ rest, orderBatch fs = f :: rest := by
  have hperm := orderBatch_perm fs
  have hsorted := orderBatch_pairwise fs
  have hmem : f ∈ orderBatch fs := hperm.mem_iff.mpr hf
  cases hb : orderBatch fs with
  | nil => simp [hb] at hmem
  | cons g rest =>
    rw [hb] at hmem hsorted hperm
    refine ⟨rest, ?_⟩
    rcases hleast g (hperm.mem_iff.mp List.mem_cons_self) with hlt | rfl
    · rcases List.mem_cons.mp hmem with rfl | hrest
      · rfl
      · exact absurd (List.rel_of_pairwise_cons hsorted hrest) (Nat.not_le.mpr hlt)
    · rfl

/-! ### One fault after another (R140) -/

/-- No two fault codes have one number (R137). -/
theorem FaultCode.number_inj {c d : FaultCode} : c.number = d.number ↔ c = d := by
  have hidx : ∀ c : FaultCode, c.number = c.ctorIdx + 1 := by intro c; cases c <;> rfl
  refine ⟨fun h => ?_, congrArg FaultCode.number⟩
  rw [hidx, hidx, Nat.add_right_cancel_iff] at h
  rw [← FaultCode.ofNat_ctorIdx c, h, FaultCode.ofNat_ctorIdx]

/-- One fault adds its code to the summary. -/
theorem FaultLog.log_summary (l : FaultLog) (f : FaultRecord) (c : FaultCode) :
    (l.log f).summary.getLsbD c.number = true ↔ l.summary.getLsbD c.number = true ∨ f.code = c := by
  have hlt : f.code.number < 32 := Nat.lt_of_le_of_lt f.code.number_bounds.2 (by decide)
  show (l.summary ||| BitVec.twoPow 32 f.code.number).getLsbD c.number = true ↔ _
  rw [BitVec.getLsbD_or, BitVec.getLsbD_twoPow, ← FaultCode.number_inj]
  simp [hlt]

/-- Faults logged one after another add their codes to the summary, and no other. -/
theorem FaultLog.foldl_log_summary (fs : List FaultRecord) (l : FaultLog) (c : FaultCode) :
    (fs.foldl FaultLog.log l).summary.getLsbD c.number = true ↔
      l.summary.getLsbD c.number = true ∨ ∃ f ∈ fs, f.code = c := by
  induction fs generalizing l with
  | nil => simp
  | cons f fs ih => rw [List.foldl_cons, ih, FaultLog.log_summary, List.exists_mem_cons_iff, or_assoc]

/-- A free capture record takes the fault, and one that holds a soft fault takes a hard one. -/
theorem FaultLog.captureNext_takes {l : FaultLog} {f : FaultRecord}
    (h : l.capture = none ∨ f.code.hard = true ∧ ∃ g, l.capture = some g ∧ g.code.hard = false) :
    l.captureNext f = some f := by
  rcases h with hfree | ⟨hf, g, hg, hsoft⟩
  · rw [FaultLog.captureNext, hfree]
  · simp [FaultLog.captureNext, hg, hf, hsoft]

/-- A captured hard fault stays, and any captured fault stays when a soft one is logged. -/
theorem FaultLog.captureNext_keeps {l : FaultLog} {f g : FaultRecord} (hg : l.capture = some g)
    (h : g.code.hard = true ∨ f.code.hard = false) : l.captureNext f = some g := by
  rcases h with h | h <;> simp [FaultLog.captureNext, hg, h]

/-- A captured hard fault stays, and any captured fault stays when only soft ones are logged. -/
theorem FaultLog.foldl_log_keeps (fs : List FaultRecord) {l : FaultLog} {g : FaultRecord} (hg : l.capture = some g)
    (h : g.code.hard = true ∨ ∀ f ∈ fs, f.code.hard = false) : (fs.foldl FaultLog.log l).capture = some g := by
  induction fs generalizing l with
  | nil => exact hg
  | cons f fs ih =>
    have hfirst : (l.log f).capture = some g :=
      FaultLog.captureNext_keeps hg (h.imp_right fun hsoft => hsoft f List.mem_cons_self)
    exact ih hfirst (h.imp_right fun hsoft x hx => hsoft x (List.mem_cons_of_mem f hx))

/-- A fault that the record takes stays captured: what is logged after it is soft or finds it hard. -/
theorem FaultLog.foldl_log_takes {l : FaultLog} {f : FaultRecord} {rest : List FaultRecord}
    (htakes : l.captureNext f = some f) (h : f.code.hard = true ∨ ∀ g ∈ rest, g.code.hard = false) :
    ((f :: rest).foldl FaultLog.log l).capture = some f :=
  FaultLog.foldl_log_keeps rest (l := l.log f) htakes h

/-- OVERFLOW: a hard fault sets it if it finds a hard fault captured, whether from before or from the same batch. -/
theorem FaultLog.foldl_log_overflow (fs : List FaultRecord) (l : FaultLog) :
    (fs.foldl FaultLog.log l).overflow = true ↔
      l.overflow = true ∨ l.hard = true ∧ (∃ f ∈ fs, f.code.hard = true) ∨
        2 ≤ (fs.filter fun f => f.code.hard).length := by
  induction fs generalizing l with
  | nil => simp
  | cons f fs ih =>
    have hover : (l.log f).overflow = (l.overflow || (f.code.hard && l.hard)) := rfl
    have hsome : (∃ x ∈ fs, x.code.hard = true) ↔ 1 ≤ (fs.filter fun x => x.code.hard).length := by
      rw [Nat.one_le_iff_ne_zero, ← Nat.pos_iff_ne_zero, List.length_pos_iff_exists_mem]
      simp
    rw [List.foldl_cons, ih, hover, FaultLog.log_hard, List.exists_mem_cons_iff]
    cases hf : f.code.hard
    · simp [hf]
    · have htwo : ∀ n : Nat, (1 ≤ n ∨ 2 ≤ n) ↔ 1 ≤ n := by omega
      simp [hf, hsome, htwo, or_assoc]

/-- A counter that stays at its maximum, as a number. -/
theorem saturate_toNat {n : Nat} (x : BitVec n) : (saturate x).toNat = min (2 ^ n - 1) (x.toNat + 1) := by
  have hx := x.isLt
  unfold saturate
  split
  next hmax => rw [hmax, BitVec.toNat_allOnes]; omega
  next hmax =>
    have hne : x.toNat ≠ 2 ^ n - 1 := by rwa [← BitVec.toNat_allOnes, ne_eq, BitVec.toNat_inj]
    have hroom : x.toNat + 1 < 2 ^ n := by omega
    have hsucc : (x + 1).toNat = x.toNat + 1 := by
      simp [BitVec.toNat_add, Nat.mod_eq_of_lt hroom]
    omega

/-- The mended counter counts the mended faults among those logged one after another, up to 255. -/
theorem FaultLog.foldl_log_mended (fs : List FaultRecord) (l : FaultLog) :
    (fs.foldl FaultLog.log l).mended.toNat =
      min 255 (l.mended.toNat + (fs.filter fun f => f.code == .mapMended || f.code == .dataMended).length) := by
  induction fs generalizing l with
  | nil => have hl := l.mended.isLt; simp; omega
  | cons f fs ih =>
    rw [List.foldl_cons, ih]
    by_cases hf : f.code = .mapMended ∨ f.code = .dataMended
    · have hcount : (l.log f).mended = saturate l.mended := if_pos hf
      rw [hcount, saturate_toNat, List.filter_cons_of_pos (by simpa using hf), List.length_cons]
      omega
    · have hcount : (l.log f).mended = l.mended := if_neg hf
      rw [hcount, List.filter_cons_of_neg (by simpa using hf)]

/-! ### A whole batch (R141) -/

/-- The Fault Log of a bridge that runs, once its batch is logged. -/
theorem State.logBatch_log {s : State} (h : s.running = true) :
    s.logBatch.log = (orderBatch s.raised).foldl FaultLog.log s.log := by
  rw [State.logBatch, if_pos h]

/-- Settles O30: each clause is about the batch in its order, which has the faults that were raised and whose first is
the one of least rank. -/
theorem batchesAreLoggedInOrder : Obligations.BatchesAreLoggedInOrder := by
  intro s hrun
  have hperm := orderBatch_perm s.raised
  have hmem : ∀ f, f ∈ orderBatch s.raised ↔ f ∈ s.raised := fun f => hperm.mem_iff
  rw [State.logBatch_log hrun]
  refine ⟨s.logBatch_raised, fun c => ?_, fun g hg hkeep => ?_, fun f hf htakes hfirst => ?_, ?_, ?_⟩
  · simp only [FaultLog.foldl_log_summary, hmem]
  · exact FaultLog.foldl_log_keeps _ hg (by simpa only [hmem] using hkeep)
  · have hleast : ∀ g ∈ s.raised, f.rank < g.rank ∨ g = f := fun g hg => by
      obtain ⟨hclass, hcode⟩ := hfirst g hg
      by_cases heq : g = f
      · exact .inr heq
      · exact .inl ((f.rank_lt_iff g).mpr ⟨hclass, fun h => (hcode h).resolve_right heq⟩)
    obtain ⟨rest, hrest⟩ := orderBatch_head hf hleast
    rw [hrest] at hmem ⊢
    refine FaultLog.foldl_log_takes (FaultLog.captureNext_takes htakes) ?_
    by_cases hhard : f.code.hard = true
    · exact .inl hhard
    · refine .inr fun g hg => ?_
      obtain ⟨hclass, -⟩ := hfirst g ((hmem g).mp (List.mem_cons_of_mem f hg))
      exact hclass.resolve_left hhard
  · rw [FaultLog.foldl_log_overflow, FaultLog.hard_iff, (hperm.filter _).length_eq]
    simp only [hmem]
  · rw [FaultLog.foldl_log_mended, (hperm.filter _).length_eq]

end Sys2Proof.Machine
end

section
/-! PROOF. Timers, and a tick boundary at which none is due (R148, R149; assumption log 9). -/

namespace Sys2Proof.Machine

/-! ### A timer's boundary (R149) -/

/-- A timer is due from its limit on, and one boundary later if it was started between two (R149). -/
theorem State.startTimer_isDue_iff (s : State) (c : LimitCode) (tick : Nat) :
    (s.startTimer c).isDue tick = true ↔
      c ≠ 0 ∧ s.sched.tick + (if s.sched.onGrid then 0 else 1) + 2 ^ (c.toNat - 1) ≤ tick := by
  by_cases hc : c = 0
  · simp [State.startTimer, Timer.isDue, hc]
  · rw [State.startTimer, if_neg hc, Timer.isDue, limitTicks, decide_eq_true_iff]
    exact (and_iff_right hc).symm

/-- A limit is at least one boundary, so no timer is due in the step that started it (R149). -/
theorem State.startTimer_not_due (s : State) (c : LimitCode) : (s.startTimer c).isDue s.sched.tick = false := by
  rw [Bool.eq_false_iff, ne_eq, State.startTimer_isDue_iff]
  rintro ⟨-, hdue⟩
  have hlimit : 0 < 2 ^ (c.toNat - 1) := Nat.two_pow_pos _
  omega

/-! ### A tick boundary at which no timer is due (R148, R164) -/

/-- Where no timer is due the timer phase handles no expiry. -/
theorem State.expireAll_none {s : State} (h : s.nextExpiry = none) (n : Nat) : s.expireAll n = s := by
  cases n with
  | zero => rfl
  | succ n => rw [State.expireAll, h]

/-- A tick boundary changes the one offer state that waits for it. -/
theorem OfferState.atTick_eq (o : OfferState) : o.atTick = if o = .waiting then .eligible else o := by
  cases o <;> rfl

/-- Where no timer is due and no fault unlogged, the timer phase only releases what waited for the boundary. -/
theorem State.finishTimers_quiet {s : State} (hdue : s.nextExpiry = none) (hraised : s.raised = []) :
    s.finishTimers = s.releaseWaiting.setPhase .packets := by
  have hquiet : s.releaseWaiting.raised = [] := hraised
  rw [State.finishTimers, State.expireAll_none hdue, State.logBatch_nothing _ hquiet]

/-- TICK_BOUNDARY between steps, with no timer due and no fault unlogged (R148). -/
theorem exec_tickBoundary_quiet (s : State) (hrun : s.running = true) (hphase : s.sched.phase = .between)
    (hraised : s.raised = []) (hdue : s.startTimers.nextExpiry = none) :
    exec .tickBoundary s = .next (s.startTimers.releaseWaiting.setPhase .packets) := by
  have hquiet : s.startTimers.raised = [] := hraised
  show Host.Outcome.next (if s.running then (s.enter .timers).finishTimers else s) = _
  rw [if_pos hrun, State.enter_timers_from_between s hrun hphase, State.finishTimers_quiet hdue hquiet]

/-- Settles O3: a limit is a power of 2 and so at least 1, and with nothing due the timer phase is the release of what
waited. -/
theorem timersExpireAtTickBoundaries : Obligations.TimersExpireAtTickBoundaries := by
  refine ⟨fun s c tick => ⟨s.startTimer_isDue_iff c tick, s.startTimer_not_due c⟩, ?_⟩
  intro s hrun hphase hraised hdue
  rw [exec_tickBoundary_quiet s hrun hphase hraised hdue]
  simp only [← OfferState.atTick_eq]
  rfl

end Sys2Proof.Machine
end

section
/-! PROOF. SET, and the reports of the settings chapter and of the engine and the lock, at a ready bridge (R150, R151,
R153 to R156). -/

namespace Sys2Proof.Machine

/-! ### Setting ids (R150, R154) -/

/-- A byte up to 9 is the id of the setting of its number. -/
theorem settingIndex_of_val {b : Byte} {i : Fin 10} (h : b.toNat = i.val) : settingIndex b = some i := by
  have hb : b.toNat < 10 := h ▸ i.isLt
  rw [settingIndex, dif_pos hb]
  exact congrArg some (Fin.ext h)

/-- A byte from 10 on is no setting's id. -/
theorem settingIndex_of_le {b : Byte} (h : 10 ≤ b.toNat) : settingIndex b = none := dif_neg (Nat.not_lt.mpr h)

/-- The masks of the settings, in the order of their ids (R151). -/
theorem settingMask_eq (i : Fin 10) :
    settingMask i =
      [0x003F#16, 0x000F#16, 0x000F#16, 0x000F#16, 0x0FF3#16, 0xFFFF#16, 0x80FF#16, 0xFFFF#16, 0x0003#16,
        0x0001#16].getD i.val 0 := by
  revert i
  decide

/-! ### SET (R150, R151) -/

/-- SET with its three parameters at a ready bridge (R4, R5). -/
theorem exec_set_ready (s e : State) (id low high : Byte) (he : e = s.atHost) (h : e.readyForCommand) :
    exec (.set [id, low, high]) s = .next (e.started.setCmd id low high).logBatch :=
  congrArg _ (State.commands_ready s e .set [id, low, high] (by decide) he h rfl (by simp))

/-- A ready bridge stores the value of a setting that exists, if every bit that must be 0 is 0 (R150). -/
theorem State.readyForCommand.set_setting {e : State} (h : e.readyForCommand) {id : Byte} {i : Fin 10}
    (hi : id.toNat = i.val) (low high : Byte) :
    (e.started.setCmd id low high).logBatch =
      if (high ++ low : BitVec 16) &&& ~~~settingMask i = 0#16 then
        { e.started with settings := e.settings.set i.val (high ++ low) }
      else e.started.logged (hostFault .paramRange) := by
  simp only [State.setCmd, settingIndex_of_val hi]
  split
  · exact State.logBatch_nothing _ h.started_raised
  · exact h.paramRange

/-- SET of a setting that does not exist (R7, R150). -/
theorem State.readyForCommand.set_noSetting {e : State} (h : e.readyForCommand) {id : Byte} (hi : 10 ≤ id.toNat)
    (low high : Byte) : (e.started.setCmd id low high).logBatch = e.started.logged (hostFault .paramRange) := by
  simp only [State.setCmd, settingIndex_of_le hi]
  exact h.paramRange

/-- Settles O23: an id byte names a setting, whose mask is the table's, or none. -/
theorem setStoresTheValue : Obligations.SetStoresTheValue := by
  intro s e id low high he h
  rw [exec_set_ready s e id low high he h]
  constructor
  · intro i hi
    rw [h.set_setting hi low high, settingMask_eq i]
    rfl
  · intro hi
    rw [h.set_noSetting hi low high]

/-! ### The reports of the settings chapter (R153, R154) -/

/-- REPORT IDENTITY at a ready bridge reports the part, the node and the strap levels its row carries (R153; assumption
log 15). -/
theorem exec_reportIdentity_ready (s u : State) (levels : Node) (selector : Byte)
    (hu : u = (s.setLevels levels).atHost) (h : u.readyForCommand) :
    exec (.reportIdentity levels (some selector)) s = .next
      (u.started.reporting [0x3E#8, 0x01#8, 0x02#8, u.power.node.setWidth 8, levels.setWidth 8, 0x00#8]) := by
  have hlevels : u.pins.strapLevels = levels := by simp [hu, State.atHost]
  have hbytes : u.started.reportFor 0 selector =
      some [0x3E#8, 0x01#8, 0x02#8, u.power.node.setWidth 8, u.pins.strapLevels.setWidth 8, 0x00#8] := rfl
  rw [hlevels] at hbytes
  exact congrArg _ (State.hostWrites_report_loads (s.setLevels levels) u 0 selector _ hu h hbytes)

/-- REPORT COUNTERS at a ready bridge reports the addressing state (R154). -/
theorem exec_reportCounters_ready (s e : State) (selector : Byte) (he : e = s.atHost) (h : e.readyForCommand) :
    exec (.reportCounters (some selector)) s = .next (e.started.reporting e.addr.report) :=
  congrArg _ (State.hostWrites_report_loads s e 1 selector _ he h rfl)

/-- REPORT STATISTICS at a ready bridge reports the counters of the engine and the Fault Log (R153). -/
theorem exec_reportStatistics_ready (s e : State) (selector : Byte) (he : e = s.atHost) (h : e.readyForCommand) :
    exec (.reportStatistics (some selector)) s = .next (e.started.reporting e.statisticsReport) :=
  congrArg _ (State.hostWrites_report_loads s e 5 selector _ he h rfl)

/-- REPORT SETTING at a ready bridge reports the selector and the value of the setting it names (R154). -/
theorem exec_reportSetting_ready (s e : State) {selector : Byte} {i : Fin 10} (he : e = s.atHost)
    (h : e.readyForCommand) (hi : selector.toNat = i.val) :
    exec (.reportSetting (some selector)) s = .next
      (e.started.reporting [selector, (e.settings.get i).extractLsb' 0 8, (e.settings.get i).extractLsb' 8 8]) := by
  have hid : countByte i.val = selector := by rw [← hi, countByte, BitVec.ofNat_toNat, BitVec.setWidth_eq]
  have hbytes : e.started.reportFor 6 selector =
      some [selector, (e.settings.get i).extractLsb' 0 8, (e.settings.get i).extractLsb' 8 8] := by
    show (settingIndex selector).map (fun j => e.started.settingReport j) = _
    rw [settingIndex_of_val hi, Option.map_some, State.settingReport, hid]
    rfl
  exact congrArg _ (State.hostWrites_report_loads s e 6 selector _ he h hbytes)

/-- REPORT SETTING of a setting that does not exist (R7, R19). -/
theorem exec_reportSetting_noSetting (s e : State) {selector : Byte} (he : e = s.atHost) (h : e.readyForCommand)
    (hi : 10 ≤ selector.toNat) :
    exec (.reportSetting (some selector)) s = .next (e.started.logged (hostFault .paramRange)) := by
  have hbytes : e.started.reportFor 6 selector = none := by
    show (settingIndex selector).map (fun j => e.started.settingReport j) = none
    rw [settingIndex_of_le hi, Option.map_none]
  show Host.Outcome.next (s.hostWrites (reportWrites 6 (some selector))) = _
  rw [State.hostWrites_report_ready s e 6 selector he h, State.reportCmd, hbytes]
  exact congrArg _ h.paramRange

/-- Settles O24: the prelude changes nothing that these reports show. -/
theorem settingsChapterReports : Obligations.SettingsChapterReports := by
  constructor
  · intro s e levels selector he h
    refine ⟨fun t u ht hu hready => ?_, exec_reportStatistics_ready s e selector he h⟩
    subst ht
    exact exec_reportIdentity_ready s u levels selector hu hready
  · intro s e selector he h
    exact ⟨exec_reportCounters_ready s e selector he h, fun _ hi => exec_reportSetting_ready s e he h hi,
      exec_reportSetting_noSetting s e he h⟩

/-! ### The ENGINE and LOCK reports (R155, R156) -/

/-- The prelude leaves the staging slot alone (R5). -/
theorem State.started_staging (e : State) : e.started.streams.staging = e.streams.staging := by
  rw [State.started]
  split <;> rfl

/-- Byte 1 of the ENGINE report after a prelude, which has cleared the IDLE latch (R5, R155). -/
theorem State.started_engineFlags (e : State) :
    e.started.engineFlags =
      bit 0 e.streams.staging.isSome ||| bit 3 e.engine.abandoned ||| bit 4 e.host.drainPending |||
        bit 6 e.power.asleep := by
  have hlatch : bit 5 e.started.host.idleLatch = 0#8 := rfl
  rw [State.engineFlags, hlatch, State.started_staging, BitVec.or_zero]
  rfl

/-- REPORT ENGINE at a ready bridge reports the bridge as its prelude leaves it (R5, R155). -/
theorem exec_reportEngine_ready (s e : State) (selector : Byte) (he : e = s.atHost) (h : e.readyForCommand) :
    exec (.reportEngine (some selector)) s = .next (e.started.reporting e.started.engineReport) :=
  congrArg _ (State.hostWrites_report_loads s e 4 selector _ he h rfl)

/-- REPORT LOCK at a ready bridge reports the lock (R156). -/
theorem exec_reportLock_ready (s e : State) (selector : Byte) (he : e = s.atHost) (h : e.readyForCommand) :
    exec (.reportLock (some selector)) s = .next (e.started.reporting e.ilu.lock.report) :=
  congrArg _ (State.hostWrites_report_loads s e 7 selector _ he h rfl)

/-- Settles O26: the prelude clears the IDLE latch, and every other byte of the reports shows what stood before it. -/
theorem engineAndLockReports : Obligations.EngineAndLockReports := by
  intro s e selector he h
  rw [exec_reportEngine_ready s e selector he h, exec_reportLock_ready s e selector he h]
  refine ⟨congrArg (fun bytes => Host.Outcome.next (e.started.reporting bytes)) ?_, rfl⟩
  rw [State.engineReport, State.started_engineFlags]
  refine congrArg (List.cons _) (congrArg (List.cons _) (congrArg₂ List.cons ?sendPoint rfl))
  case sendPoint =>
    show (e.engine.sendPoint.map fun p => p.offer.reportByte).getD 0 = _
    cases e.engine.sendPoint with
    | none => rfl
    | some p => cases hoffer : p.offer <;> simp [hoffer, OfferState.reportByte]

end Sys2Proof.Machine
end

section
/-! PROOF. The command queue, and the end of reset initialization (R157, R158, R164). -/

namespace Sys2Proof.Machine

/-! ### The command queue (R164; assumption logs 3 and 4) -/

/-- With nothing waiting, a step ends the processing step in progress (R164). -/
theorem step_of_pending_nil (s : State) (h : s.pending = []) : step s = .next (s.enter .between) := by
  simp only [step, h]

/-- Every command has its effect in every state (assumption log 3). -/
theorem exec_next (c : Instr) (s : State) : ∃ t, exec c s = .next t := by
  cases c <;> exact ⟨_, rfl⟩

/-- Settles O1: the queue decides what a step handles, and each arm of the dispatch is a `next`. -/
theorem stepRunsTheFrontCommand : Obligations.StepRunsTheFrontCommand := by
  refine ⟨fun _ _ _ => rfl, step_of_pending_nil, fun s hnil hbetween => ?_, exec_next⟩
  rw [step_of_pending_nil s hnil, State.enter_between_of_between s hbetween]

/-! ### The end of initialization (R157, R158; assumption log 18) -/

/-- Initialization ends with the values of its own kind of reset (R157, R158). -/
theorem State.endInitialization_initializing (s : State) (k : ResetKind) (h : s.power.mode = .initializing k) :
    s.endInitialization = s.initialized k := by
  simp only [State.endInitialization, h]

/-- Settles O36: `initialized` is the power-on state but for what the kind of reset keeps. -/
theorem initializationSetsPowerOnValues : Obligations.InitializationSetsPowerOnValues := by
  intro s k hk
  exact congrArg _ (s.endInitialization_initializing k hk)

end Sys2Proof.Machine
end

section
/-! PROOF. SPAN-RESET: what it discards, and the change of the line (R160, R161). -/

namespace Sys2Proof.Machine

/-! ### Tags -/

/-- The states in the list of tags are those of the tags. -/
theorem State.mem_tags_iff (s : State) (st : TagState) : st ∈ s.engine.tags.toList ↔ ∃ t, s.tag t = st := by
  rw [← s.ofFn_tag, Vector.toList_ofFn, List.mem_ofFn]

/-- A test of the tags finds one if it holds of the state of a tag. -/
theorem State.tags_any_iff (s : State) (f : TagState → Bool) :
    s.engine.tags.toList.any f = true ↔ ∃ t, f (s.tag t) = true := by
  simp only [List.any_eq_true, s.mem_tags_iff, exists_exists_eq_and]

/-- A test of the tags holds of all if it holds of the state of each tag. -/
theorem State.tags_all_iff (s : State) (f : TagState → Bool) :
    s.engine.tags.toList.all f = true ↔ ∀ t, f (s.tag t) = true := by
  simp only [List.all_eq_true, s.mem_tags_iff, forall_exists_index, forall_apply_eq_imp_iff]

/-- A tag is BUSY with a host-originated request. -/
theorem TagState.holdsHost_iff (st : TagState) :
    st.holdsHost = true ↔ ∃ b, st = .busy b ∧ b.req.fromHost = true := by
  cases st <;> simp [TagState.holdsHost]

/-! ### The requests that SPAN-RESET discards (R160) -/

/-- The origins of host-originated requests (R75). -/
theorem Request.fromHost_iff (r : Request) :
    r.fromHost = true ↔ r.origin ≠ .noticeSend ∧ r.origin ≠ .recallSend := by
  unfold Request.fromHost
  cases r.origin <;> simp [Origin.fromHost]

/-- The bridge holds a request that SPAN-RESET discards (R160, step 1). -/
def State.holdsRequest (s : State) (r : Request) : Prop :=
  (∃ q ∈ s.engine.queue, q.req = r) ∨ (∃ p, s.engine.sendPoint = some p ∧ p.req = r) ∨
    s.streams.staging = some r ∨ s.streams.deferred = some r ∨ s.ilu.waiting = some r ∨
    (∃ k, s.ilu.kept = some k ∧ k.req = r) ∨ ∃ t b, s.tag t = .busy b ∧ b.req = r

/-- A request is lost where one of those discarded is host-originated: once the tests of `losesRequest` are read as
existence claims, the two sides name the same holders in another order (R160, step 1). -/
theorem State.losesRequest_iff (s : State) :
    s.losesRequest = true ↔ ∃ r : Request, r.fromHost = true ∧ s.holdsRequest r := by
  simp only [State.losesRequest, Bool.or_eq_true, s.tags_any_iff, TagState.holdsHost_iff, List.any_eq_true,
    Option.any_eq_true]
  grind [State.holdsRequest]

/-- The fault of an assertion of SPAN-RESET that loses a host-originated request (R160, step 1). -/
theorem State.spanResetFault_loss (s : State) (r : Request) (hnotice : r.origin ≠ .noticeSend)
    (hrecall : r.origin ≠ .recallSend) (hheld : s.holdsRequest r) :
    s.spanResetFault = bareFault .spanResetLoss .outbound := by
  have hloses : s.losesRequest = true :=
    s.losesRequest_iff.mpr ⟨r, r.fromHost_iff.mpr ⟨hnotice, hrecall⟩, hheld⟩
  rw [State.spanResetFault, if_pos hloses]

/-- The fault of an assertion of SPAN-RESET that finds no request to discard (R160, step 1). -/
theorem State.spanResetFault_none (s : State) (h : ∀ r, ¬ s.holdsRequest r) :
    s.spanResetFault = bareFault .spanReset .outbound := by
  have hkeeps : ¬ s.losesRequest = true := fun hloses =>
    let ⟨r, _, hr⟩ := s.losesRequest_iff.mp hloses
    h r hr
  rw [State.spanResetFault, if_neg hkeeps]

/-! ### The line (R160, R161) -/

/-- An offer that becomes orphaned, if there is one (R76). -/
theorem map_orphaned (o : Option Offered) :
    (o.map fun _ => Offered.orphaned) = if o = none then none else some .orphaned := by
  cases o <;> rfl

/-- An assertion of SPAN-RESET at a running bridge (R160). -/
theorem exec_spanResetAssertion_running (s e : State) (he : e = s.enter .spanLine) (hline : s.pins.spanReset = false)
    (hr : e.running = true) (hraised : e.raised = []) :
    exec .spanResetAssertion s = .next ((e.spanClear.setSpanLine true).logged e.spanResetFault) := by
  have hrun : s.running = true := by subst he; simpa using hr
  have hasserted : exec .spanResetAssertion s = .next e.assertSpanReset.logBatch := by
    show Host.Outcome.next (if s.pins.spanReset then _ else _) = _
    rw [if_neg (by simp [hline]), if_pos hrun, ← he]
  rw [hasserted]
  exact congrArg _ (State.logBatch_raise (e.spanClear.setSpanLine true) e.spanResetFault hr hraised)

/-- Settles O38: what the bridge holds decides the fault, and the rest is cleared in either case. -/
theorem spanResetClearsTheSpanSide : Obligations.SpanResetClearsTheSpanSide := by
  constructor
  · intro s e fault he hline hr hraised hfault
    have hcode : e.spanResetFault = bareFault fault .outbound := by
      rcases hfault with ⟨rfl, r, hnotice, hrecall, hheld⟩ |
        ⟨rfl, hqueue, hpoint, hstaging, hdeferred, hwaiting, hkept, htags⟩
      · exact e.spanResetFault_loss r hnotice hrecall hheld
      · exact e.spanResetFault_none fun r => by
          simp [State.holdsRequest, hqueue, hpoint, hstaging, hdeferred, hwaiting, hkept, htags]
    rw [exec_spanResetAssertion_running s e he hline hr hraised, hcode, ← map_orphaned]
    rfl
  · intro s e he hline
    subst he
    exact congrArg _ (if_pos hline)

end Sys2Proof.Machine
end

section
/-! PROOF. Command bytes with BUSY clear and no open collection, awake or asleep: the RESTART pair, the sleep filter,
and the preludes of what passes it (R5, R6, R12, R159, R162, R163). -/

namespace Sys2Proof.Machine

/-! ### Command bytes -/

/-- A write with CD = 1 at a running bridge with BUSY clear and no open collection is a command byte (R1). -/
theorem State.hostWrite_commandByte (s e : State) (b : Byte) (he : e = s.atHost) (hr : e.running = true)
    (hs : e.streams.staging = none) (hopen : e.host.collecting = false) :
    s.hostWrite b = ((e.select true).commandByte b).logBatch := by
  have hrun : (e.select true).running = true := hr
  rw [State.hostWrite, State.hostCycle_at s e _ he, State.writeCommand, if_neg (by simp [hrun]),
    if_neg (by simp [hs]), if_neg (by simp [hopen])]

/-! ### The RESTART pair (R12, R159) -/

/-- A RESTART byte is decoded awake and asleep (R6, R12). -/
theorem State.commandByte_restart (e : State) : e.commandByte Command.restart.byte = e.restartByte := by
  simp [State.commandByte, passesSleep]

/-- Settles O33: the half-seen flag tells the first byte of the pair from the second, and `restart` is the second one's
effect. -/
theorem restartTakesTwoBytes : Obligations.RestartTakesTwoBytes := by
  intro s e he hr hraised hs hopen
  have hwrite : s.hostWrite Command.restart.byte = (e.select true).restartByte.logBatch := by
    rw [State.hostWrite_commandByte s e _ he hr hs hopen, State.commandByte_restart]
  constructor
  · intro hhalf
    have hfirst : (e.select true).restartByte = (e.select true).setHalf true := if_neg (by simp [hhalf])
    show Host.Outcome.next (s.hostWrite Command.restart.byte) = _
    rw [hwrite, hfirst]
    exact congrArg _ (State.logBatch_nothing ((e.select true).setHalf true) hraised)
  · intro hhalf
    have hsecond : (e.select true).restartByte = (e.select true).restart := if_pos hhalf
    show Host.Outcome.next (s.hostWrite Command.restart.byte) = _
    rw [hwrite, hsecond, State.logBatch_nothing (e.select true).restart hraised]
    rw [← map_orphaned]
    rfl

/-! ### The prelude, awake or asleep (R5) -/

/-- A bridge with BUSY clear and no collection, open pack or unlogged fault, awake or asleep. -/
structure State.Unencumbered (e : State) : Prop where
  runs : e.running = true
  notBusy : e.streams.staging = none
  noPack : e.streams.pack = none
  noCollection : e.host.collected = none
  notCollecting : e.host.decoder ≠ .collecting
  noFault : e.raised = []

/-- A bridge is ready for a command if it is unencumbered and awake. -/
theorem State.readyForCommand_iff (e : State) : e.readyForCommand ↔ e.Unencumbered ∧ e.power.asleep = false := by
  constructor
  · rintro ⟨hr, hawake, hs, hp, hcol, hd, hraised⟩
    exact ⟨⟨hr, hs, hp, hcol, hd, hraised⟩, hawake⟩
  · rintro ⟨⟨hr, hs, hp, hcol, hd, hraised⟩, hawake⟩
    exact ⟨hr, hawake, hs, hp, hcol, hd, hraised⟩

/-- Without a collection none is open. -/
theorem State.Unencumbered.notOpen {e : State} (h : e.Unencumbered) : e.host.collecting = false := by
  simp [HostPort.collecting, h.noCollection]

/-- With no pack and no collection, ending a stream is all that the prelude does beside clearing the IDLE latch (R5). -/
theorem State.Unencumbered.commandPrelude_eq {e : State} (h : e.Unencumbered) (skipSeal : Bool) :
    e.touched.commandPrelude skipSeal = e.started := by
  have hsealed : (if skipSeal then e.touched.clearLatch else e.touched.clearLatch.seal) = e.touched.clearLatch := by
    cases skipSeal
    · exact State.seal_none _ h.noPack
    · rfl
  have hended : e.touched.clearLatch.endStream = e.started := by
    have hd := h.notCollecting
    cases hdec : e.host.decoder <;>
      simp_all [State.endStream, State.started, State.touched, State.clearLatch, State.setDecoder, State.invalidate,
        State.setHost]
  have hcol : e.started.host.collected = none := h.noCollection
  rw [State.commandPrelude, hsealed, hended, State.cancelCollection, hcol]

/-- A command byte that passes the sleep filter, RESTART apart: its prelude, then its decoding (R5, R6). -/
theorem State.Unencumbered.hostWrite {s e : State} (h : e.Unencumbered) (he : e = s.atHost) (c : Command)
    (hpasses : passesSleep (some c) = true) (hc : c ≠ .restart) :
    s.hostWrite c.byte = (e.started.decode (some c)).logBatch := by
  rw [State.hostWrite_commandByte s e _ he h.runs h.notBusy h.notOpen, State.commandByte, decode_byte,
    if_neg (by simp [hpasses]), if_neg (by simp [hc]), State.select_setHalf, h.commandPrelude_eq]

/-- Between the bytes of a command that begins here, the bridge is settled. -/
theorem State.Unencumbered.started_settled {s e : State} (h : e.Unencumbered) (he : e = s.atHost) :
    e.started.Settled := by
  have hrun : s.running = true := by have hr := h.runs; subst he; simpa [State.atHost] using hr
  have hphase : e.started.sched.phase = .host := by subst he; exact State.enter_phase .host s hrun
  exact
    { runs := h.runs, inHost := hphase, notBusy := e.started_staging.trans h.notBusy, noHalf := rfl, selected := rfl
      noFault := h.noFault, idle := rfl, noCollection := h.noCollection }

/-! ### SLEEP and WAKE (R162, R163) -/

/-- The prelude has sealed any pack before it, and leaves the pack as it is from there (R5). -/
theorem State.started_pack (e : State) : e.started.streams.pack = e.streams.pack := by
  rw [State.started]
  split <;> rfl

/-- A tag is FREE. -/
theorem TagState.isFree_iff (st : TagState) : st.isFree = true ↔ st = .free := by cases st <;> simp [TagState.isFree]

/-- The conditions of SLEEP, one by one (R162). -/
theorem State.maySleep_iff (s : State) :
    s.maySleep = true ↔
      s.streams.pack = none ∧ s.streams.staging = none ∧ s.streams.deferred = none ∧ s.ilu.waiting = none ∧
        s.engine.queue = [] ∧ s.engine.sendPoint = none ∧ s.engine.abandoned = false ∧ (∀ t, s.tag t = .free) ∧
        s.engine.reports = [] ∧ s.inbound.queue = [] ∧ s.ilu.table = [] ∧ s.ilu.lock.state = .none := by
  simp only [State.maySleep, Bool.and_eq_true, Bool.not_eq_true', Option.isNone_iff_eq_none, List.isEmpty_iff,
    beq_iff_eq, s.tags_all_iff, TagState.isFree_iff, and_assoc]

/-- The prelude of a ready bridge leaves the conditions of R162 on the pack and on BUSY met. -/
theorem State.readyForCommand.maySleep_iff {e : State} (h : e.readyForCommand) :
    e.started.maySleep = true ↔
      e.started.streams.deferred = none ∧ e.ilu.waiting = none ∧ e.engine.queue = [] ∧ e.engine.sendPoint = none ∧
        e.engine.abandoned = false ∧ (∀ t, e.tag t = .free) ∧ e.engine.reports = [] ∧ e.inbound.queue = [] ∧
        e.ilu.table = [] ∧ e.ilu.lock.state = .none := by
  obtain ⟨-, -, hstaging, hpack, -⟩ := h
  rw [State.maySleep_iff, e.started_pack, e.started_staging, and_iff_right hpack, and_iff_right hstaging]
  rfl

/-- SLEEP at a ready bridge (R5, R162). -/
theorem exec_sleep_ready (s e : State) (he : e = s.atHost) (h : e.readyForCommand) :
    exec .sleep s =
      .next (if e.started.maySleep then e.started.setAsleep true else e.started.logged (hostFault .protocol)) := by
  have hexec : exec .sleep s = .next e.started.sleepCmd.logBatch :=
    congrArg _ (State.command_ready s e .sleep (by decide) he h rfl)
  rw [hexec, State.sleepCmd]
  split
  · exact congrArg _ (State.logBatch_nothing _ h.started_raised)
  · exact congrArg _ (State.logBatch_raise _ _ h.runs h.started_raised)

/-- WAKE, awake or asleep (R163). -/
theorem State.Unencumbered.exec_wake {s e : State} (h : e.Unencumbered) (he : e = s.atHost) :
    exec .wake s = .next { e.started with power := { e.power with asleep := false } } := by
  show Host.Outcome.next (s.hostWrite Command.wake.byte) = _
  rw [h.hostWrite he .wake rfl (by decide)]
  exact congrArg _ (State.logBatch_nothing _ h.noFault)

/-! ### The sleep filter (R6) -/

/-- A byte decodes only to the command whose byte it is. -/
theorem byte_of_decode {b : Byte} {c : Command} (h : decodeCommandByte b = some c) : b = c.byte := by
  unfold decodeCommandByte at h
  split at h <;> cases h <;> exact BitVec.eq_of_toNat_eq ‹b.toNat = _›

/-- Every byte but those of WAKE, RESTART, REPORT and TAKE NOTICE is filtered (R6). -/
theorem passesSleep_decode {b : Byte} (hwake : b ≠ 0x41#8) (hrestart : b ≠ 0x3F#8) (hreport : b ≠ 0x29#8)
    (htake : b ≠ 0x30#8) : passesSleep (decodeCommandByte b) = false := by
  cases hdecode : decodeCommandByte b with
  | none => rfl
  | some c =>
    have hbyte := byte_of_decode hdecode
    cases c with
    | wake => exact absurd hbyte hwake
    | restart => exact absurd hbyte hrestart
    | report => exact absurd hbyte hreport
    | takeNotice => exact absurd hbyte htake
    | _ => rfl

/-- A byte that is filtered is PROTOCOL and clears the RESTART flag (R6, R12). -/
theorem State.hostWrite_filtered (s e : State) (b : Byte) (he : e = s.atHost) (hr : e.running = true)
    (hasleep : e.power.asleep = true) (hs : e.streams.staging = none) (hopen : e.host.collecting = false)
    (hraised : e.raised = []) (hb : passesSleep (decodeCommandByte b) = false) :
    s.hostWrite b = e.touched.logged (hostFault .protocol) := by
  rw [State.hostWrite_commandByte s e b he hr hs hopen, State.commandByte, if_pos (by simp [hasleep, hb]),
    State.select_setHalf]
  exact State.logBatch_raise e.touched _ hr hraised

/-! ### REPORT and TAKE NOTICE (R6, R130, R147) -/

/-- The byte of REPORT opens its collection (R4). -/
theorem State.Unencumbered.hostWrite_report {s e : State} (h : e.Unencumbered) (he : e = s.atHost) :
    s.hostWrite Command.report.byte = e.started.owing .report 2 := by
  rw [h.hostWrite he .report rfl (by decide)]
  exact State.logBatch_nothing (e.started.owing .report 2) h.noFault

/-- REPORT with its id and selector (R4, R7, R19). -/
theorem State.Unencumbered.hostWrites_report {s e : State} (h : e.Unencumbered) (he : e = s.atHost)
    (id selector : Byte) :
    s.hostWrites (reportWrites id (some selector)) = (e.started.reportCmd id selector).logBatch := by
  show (s.hostWrite Command.report.byte).hostWrites [id, selector] = _
  rw [h.hostWrite_report he]
  exact State.hostWrites_parameters e.started .report [] [id, selector] (h.started_settled he) (by simp)

/-- REPORT SUMMARY (R147). -/
theorem State.Unencumbered.exec_reportSummary {s e : State} (h : e.Unencumbered) (he : e = s.atHost)
    (selector : Byte) : exec (.reportSummary (some selector)) s = .next (e.started.reporting e.log.summaryReport) := by
  show Host.Outcome.next (s.hostWrites (reportWrites 3 (some selector))) = _
  rw [h.hostWrites_report he 3 selector]
  exact congrArg _ (State.logBatch_nothing (e.started.reportCmd 3 selector) h.noFault)

/-- TAKE NOTICE changes the notice state and reports the taken slot (R130). -/
theorem State.Unencumbered.exec_takeNotice {s e : State} (h : e.Unencumbered) (he : e = s.atHost) :
    exec .takeNotice s =
      .next (State.reporting e.notices.take.takenReport { e.started with notices := e.notices.take }) := by
  show Host.Outcome.next (s.hostWrite Command.takeNotice.byte) = _
  rw [h.hostWrite he .takeNotice rfl (by decide)]
  exact congrArg _ (State.logBatch_nothing e.started.takeNoticeCmd h.noFault)

/-- The bytes of TAKEN for a NOTICE that is not withdrawn (R131). -/
theorem NoticeRecord.takenBytes_notice {r : NoticeRecord} {code : NoticeCode} (h : r.body = .notice code) :
    r.takenBytes false =
      [0x01#8, r.level.setWidth 8, r.source.setWidth 8, r.sequence, code.extractLsb' 0 8, code.extractLsb' 8 8,
        0x00#8, 0x00#8, 0x00#8, 0x00#8] := by
  have hkind : (1 : Byte) ||| bit 7 false = 0x01#8 := by decide
  rw [NoticeRecord.takenBytes, h, NoticeBody.number, hkind]
  rfl

/-- Settles O34: SLEEP by its test, every other byte of a sleeping bridge by the filter, and what passes the filter by
the same prelude as awake. -/
theorem sleepIsEnteredFilteredAndLeft : Obligations.SleepIsEnteredFilteredAndLeft := by
  refine ⟨⟨?sleep, ?wake⟩, ?filtered, ?passed⟩
  case sleep =>
    intro s e he h
    rw [exec_sleep_ready s e he h]
    constructor
    · intro hdeferred hwaiting hqueue hpoint habandoned htags hreports hinbound htable hlock
      rw [if_pos (h.maySleep_iff.mpr ⟨hdeferred, hwaiting, hqueue, hpoint, habandoned, htags, hreports, hinbound,
        htable, hlock⟩)]
      rfl
    · intro hrefuses
      have hrefused : ¬ e.started.maySleep = true := fun hsleeps => by
        obtain ⟨hdeferred, hwaiting, hqueue, hpoint, habandoned, htags, hreports, hinbound, htable, hlock⟩ :=
          h.maySleep_iff.mp hsleeps
        simp [hdeferred, hwaiting, hqueue, hpoint, habandoned, htags, hreports, hinbound, htable, hlock] at hrefuses
      rw [if_neg hrefused]
  case wake =>
    intro s e he hr hs hp hcol hd hraised
    exact State.Unencumbered.exec_wake ⟨hr, hs, hp, hcol, hd, hraised⟩ he
  case filtered =>
    intro s e b he hr hasleep hs hopen hraised hwake hrestart hreport htake
    have hfiltered : ∀ x : Byte, passesSleep (decodeCommandByte x) = false →
        Host.Outcome.next (s.hostWrite x) =
          (Host.Outcome.next (e.touched.logged (hostFault .protocol)) : Result) :=
      fun x hx => congrArg _ (s.hostWrite_filtered e x he hr hasleep hs hopen hraised hx)
    have hcommand : ∀ c : Command, passesSleep (some c) = false →
        Host.Outcome.next (s.hostWrite c.byte) =
          (Host.Outcome.next (e.touched.logged (hostFault .protocol)) : Result) :=
      fun c hc => hfiltered c.byte (by rw [decode_byte]; exact hc)
    refine ⟨hfiltered b (passesSleep_decode hwake hrestart hreport htake), ?_⟩
    simp only [List.forall_mem_cons]
    exact ⟨hcommand .nop rfl, hcommand .nextLine rfl, hcommand .reload rfl, hcommand .clearCounters rfl,
      hcommand .writeStream rfl, hcommand .readStream rfl, hcommand .drain rfl, hcommand .fetchLock rfl,
      hcommand .releaseLock rfl, hcommand .faultRelease rfl, hcommand .abort rfl, hcommand .sleep rfl,
      hcommand .setPage rfl, hcommand .setOffset rfl, hcommand .setAddress rfl, hcommand .direction rfl,
      hcommand .windowLimit rfl, hcommand .storeUnlock rfl, hcommand .mapWrite rfl, hcommand .mapRead rfl,
      hcommand .gateWrite rfl, hcommand .gateRead rfl, hcommand .set rfl, hcommand .sendNotice rfl,
      hcommand .sendRecall rfl, hcommand .faultClear rfl, List.forall_mem_nil _⟩
  case passed =>
    intro s e selector he hr _ hs hp hcol hd hraised
    have h : e.Unencumbered := ⟨hr, hs, hp, hcol, hd, hraised⟩
    refine ⟨?_, h.exec_reportSummary he selector, fun hqueue => ?_,
      fun older newer r code hqueue holder hnewer hbody => ?_⟩
    · have hreport : Host.Outcome.next (s.hostWrite Command.report.byte) =
          (Host.Outcome.next (e.started.owing .report 2) : Result) := congrArg _ (h.hostWrite_report he)
      simp only [List.forall_mem_cons]
      exact ⟨hreport, hreport, hreport, hreport, hreport, hreport, hreport, hreport, hreport, List.forall_mem_nil _⟩
    · rw [h.exec_takeNotice he, e.notices.take_empty hqueue, Notices.takenReport_none rfl]
    · rw [h.exec_takeNotice he, e.notices.take_highest hqueue holder hnewer, Notices.takenReport_some rfl,
        NoticeRecord.takenBytes_notice hbody]

end Sys2Proof.Machine
end
